-- ==== Sys2Proof/Word.lean ====
section
/-! DEFINITION. The one word type of the block: a byte. -/

namespace Sys2Proof

/-- A byte, "8 bits, a value 0 to 255", bit 7 the most significant (R6). Every transfer on every port
moves whole bytes (R44). -/
abbrev Byte := BitVec 8

end Sys2Proof
end

