-- ==== Sys2Proof/Machine/CrcUnit.lean ====
section
/-! DEFINITION. The CRC unit (40_crc.md): table generation, the table, the update, the fold, the final XOR, and the two
equivalent realisations. Pure functions, no state (R100). -/

namespace Sys2Proof.Machine

/-- `POLY`, `CRC_INIT`, `CRC_XOROUT`, `CRC_RESIDUE` (R3, R90). -/
def crcPoly : Nat := 0x49
def crcInit : Byte := 0x00#8
def crcXorOut : Byte := 0xff#8
def crcResidue : Byte := 0x53#8

/-- One iteration of R91, on a natural number that is not truncated. -/
def genStep (n : Nat) : Nat := if n &&& 0x80 ≠ 0 then (n <<< 1) ^^^ crcPoly else n <<< 1

/-- `k` iterations. -/
def genIter : Nat → Nat → Nat
  | 0, n     => n
  | k + 1, n => genIter k (genStep n)

/-- `T[i]` (R91): 8 iterations from `i`, then the low 8 bits. -/
def tableEntry (i : Byte) : Byte := BitVec.ofNat 8 (genIter 8 i.toNat &&& 0xff)

/-- The table `T` as R91 generates it, index 0 first. -/
def crcTable : List Byte := (List.range 256).map fun i => tableEntry (BitVec.ofNat 8 i)

/-- `crc_update(c, b) = T[(b ^ c) & 0xff]` (R93). -/
def crcUpdate (c b : Byte) : Byte := tableEntry (b ^^^ c)

/-- `crc_from(c, s)` (R94): the fold from an explicit start value. -/
def crcFrom (c : Byte) (s : List Byte) : Byte := s.foldl crcUpdate c

/-- `crc_raw(s)` (R94). -/
def crcRaw (s : List Byte) : Byte := crcFrom crcInit s

/-- `computeCrc(s)` (R95): the transmitted checksum. -/
def computeCrc (s : List Byte) : Byte := crcRaw s ^^^ crcXorOut

/-- One clock of the shift register of R97 with input bit `d`. -/
def crcClock (c : Byte) (d : Bool) : Byte :=
  if Bool.xor c.msb d then (c <<< 1) ^^^ BitVec.ofNat 8 crcPoly else c <<< 1

/-- The bit-serial form (R97): the bits of `b`, bit 7 first. -/
def crcBits (c b : Byte) : Byte :=
  crcClock (crcClock (crcClock (crcClock (crcClock (crcClock (crcClock (crcClock c
    (b.getLsbD 7)) (b.getLsbD 6)) (b.getLsbD 5)) (b.getLsbD 4)) (b.getLsbD 3)) (b.getLsbD 2)) (b.getLsbD 1)) (b.getLsbD 0)

/-- XOR of the named bits of a byte. -/
def xorBits (x : Byte) (js : List Nat) : Bool := js.foldl (fun a j => Bool.xor a (x.getLsbD j)) false

/-- The parallel form (R98): bit `k` of the result is the XOR of the bits of `x` the rule lists for `n<k>`. -/
def crcParallelBit (x : Byte) : Nat → Bool
  | 0 => xorBits x [0, 2, 4, 5, 6]
  | 1 => xorBits x [1, 3, 5, 6, 7]
  | 2 => xorBits x [2, 4, 6, 7]
  | 3 => xorBits x [0, 2, 3, 4, 6, 7]
  | 4 => xorBits x [1, 3, 4, 5, 7]
  | 5 => xorBits x [2, 4, 5, 6]
  | 6 => xorBits x [0, 2, 3, 4, 7]
  | 7 => xorBits x [1, 3, 4, 5]
  | _ => false

end Sys2Proof.Machine
end

