-- ==== Sys2Proof/Config.lean ====
section
/-! DEFINITION. The build-time parameters the spec leaves open (00_scope.md R4). The protocol's byte constants stand in
Decode.lean, the CRC's and the lengths in Machine/CrcUnit.lean and Machine/Operands.lean. There is no free value. -/

namespace Sys2Proof

/-- `ESC_THEN_SOF` (R4, D5): what RX does on `0x00` while an escape is pending. -/
inductive EscThenSof where
  | restart
  | abort
  deriving DecidableEq, Repr

/-- `ESC_THEN_ESC` (R4, D6): what RX does on `0xaa` while an escape is pending. -/
inductive EscThenEsc where
  | stayPending
  | abort
  deriving DecidableEq, Repr

/-- The parameters of R4. They stand in State, where no step writes them, so that a claim over all states covers every
value of them (log 1). -/
structure Config where
  /-- `ACC_CAP`: capacity of the accumulator in bytes, `none` is unbounded. -/
  accCap     : Option Nat
  escThenSof : EscThenSof
  escThenEsc : EscThenEsc
  deriving DecidableEq, Repr

/-- The defaults of R4's table. -/
def Config.default : Config := ⟨none, .restart, .stayPending⟩

/-- R4: `ACC_CAP` is "`none` or a natural number at least 4097". -/
def Config.wf (c : Config) : Bool :=
  match c.accCap with
  | none   => true
  | some n => decide (4097 ≤ n)

end Sys2Proof
end

