-- ==== Sys2Proof/Syntax.lean ====
section
/-! DEFINITION. The instructions: one constructor for each of the 44 rows of spec/opcode_table.json, in its order, and the
small types their operands and selecting states are made of. -/

namespace Sys2Proof

/-- `rx.mode` (R11). -/
inductive Mode where
  | idle
  | framing
  deriving DecidableEq, Repr

/-- `tx.phase` (R17). -/
inductive Phase where
  | txIdle
  | txSof
  | txData
  | txCrc
  | txEof
  | txCtl
  deriving DecidableEq, Repr

/-- The three escape codes (R63): the second byte of an escape pair. -/
inductive EscCode where
  | x00
  | xaa
  | xff
  deriving DecidableEq, Repr

/-- The closed enumeration of control commands (R170), index 0, 1, 2 (R171). "A model's command type has three
constructors" (U5). -/
inductive Ctl where
  | base
  | radio
  | telem
  deriving DecidableEq, Repr

/-- One row of the opcode table each. -/
inductive Instr where
  -- RXBYTE, rx.mode = Idle
  | rxIdleSof
  | rxIdleEsc
  | rxIdleX00
  | rxIdleXaa
  | rxIdleXff
  | rxIdleEof
  | rxIdleDat (d : Byte)
  -- RXBYTE, rx.mode = Framing, rx.esc = 0
  | rxFramingSof
  | rxFramingEsc
  | rxFramingX00
  | rxFramingXaa
  | rxFramingXff
  | rxFramingEofValid
  | rxFramingEofInvalid
  | rxFramingDat (d : Byte)
  | rxFramingOverflow (d : Byte)
  -- RXBYTE, rx.mode = Framing, rx.esc = 1
  | rxFramingEscSof
  | rxFramingEscEsc
  | rxFramingEscX00
  | rxFramingEscXaa
  | rxFramingEscXff
  | rxFramingEscEof
  | rxFramingEscDat (d : Byte)
  -- TXSYM
  | txStuffS00
  | txStuffSaa
  | txStuffSff
  | txStuffOther (v : Byte)
  -- FUNCTION
  | encodeFrame (p : List Byte)
  -- TXCMD; x is the field the row ignores
  | txAccept (len : BitVec 13) (x : BitVec 2)
  | sendControl (x : BitVec 13) (k : Ctl)
  -- TXSTEP
  | txEsc2
  | txSof
  | txData (b : Byte)
  | txCrc
  | txEof
  | txCtl
  -- FUNCTION
  | crcGen
  | crcUpd (c b : Byte)
  | crcRaw (s : List Byte)
  | crcFin (s : List Byte)
  | crcChk (p : List Byte)
  -- CTLFRAME
  | ctlBase
  | ctlRadio
  | ctlTelem
  deriving DecidableEq, Repr

/-- What a caller of one of the block's pure functions names: a FUNCTION row with its operands, a TXSYM row by its symbol,
or a CTLFRAME row by its bytes (log 6, log 7, log 8). -/
inductive FunCall where
  | encode (p : List Byte)
  | crcGen
  | crcUpd (c b : Byte)
  | crcRaw (s : List Byte)
  | crcFin (s : List Byte)
  | crcChk (p : List Byte)
  | stuff (v : Byte)
  | frame (bytes : List Byte)
  deriving DecidableEq, Repr

end Sys2Proof
end

