-- ==== Sys2Proof/WellFormed.lean ====
section
/-! DEFINITION. Which terms of Instr are instructions: the operand ranges of the opcode table's rows. -/

namespace Sys2Proof

/-- The values the six fixed rows of a decoder state take (R66). A `DAT` row has "any of the 250 values not matched". -/
def isFixedRxValue (d : Byte) : Bool :=
  d == 0x00#8 || d == 0xaa#8 || d == 0xab#8 || d == 0xac#8 || d == 0xad#8 || d == 0xff#8

/-- The three values reserved on the wire (R62). -/
def isReservedValue (v : Byte) : Bool :=
  v == 0x00#8 || v == 0xaa#8 || v == 0xff#8

/-- The operands the table admits. `RX.Framing.overflow` takes the 250 `DAT` values and, by its note, the three codes: every
value but the reserved three. `TX.STUFF.OTHER` takes the 253 values that are not reserved (R67). Every length, every
payload byte and every operand of a CRC function is admitted (R111: "every byte value is a legal payload byte"). -/
def wellFormed : Instr → Bool
  | .rxIdleSof => true
  | .rxIdleEsc => true
  | .rxIdleX00 => true
  | .rxIdleXaa => true
  | .rxIdleXff => true
  | .rxIdleEof => true
  | .rxIdleDat d => !isFixedRxValue d
  | .rxFramingSof => true
  | .rxFramingEsc => true
  | .rxFramingX00 => true
  | .rxFramingXaa => true
  | .rxFramingXff => true
  | .rxFramingEofValid => true
  | .rxFramingEofInvalid => true
  | .rxFramingDat d => !isFixedRxValue d
  | .rxFramingOverflow d => !isReservedValue d
  | .rxFramingEscSof => true
  | .rxFramingEscEsc => true
  | .rxFramingEscX00 => true
  | .rxFramingEscXaa => true
  | .rxFramingEscXff => true
  | .rxFramingEscEof => true
  | .rxFramingEscDat d => !isFixedRxValue d
  | .txStuffS00 => true
  | .txStuffSaa => true
  | .txStuffSff => true
  | .txStuffOther v => !isReservedValue v
  | .encodeFrame _ => true
  | .txAccept _ _ => true
  | .sendControl _ _ => true
  | .txEsc2 => true
  | .txSof => true
  | .txData _ => true
  | .txCrc => true
  | .txEof => true
  | .txCtl => true
  | .crcGen => true
  | .crcUpd _ _ => true
  | .crcRaw _ => true
  | .crcFin _ => true
  | .crcChk _ => true
  | .ctlBase => true
  | .ctlRadio => true
  | .ctlTelem => true

end Sys2Proof
end

