-- ==== Sys2Proof/Decode.lean ====
section
/-! DEFINITION. The wire format (30_encoding.md): the byte constants, the byte classes, which row of the opcode table a byte,
a symbol, a command pattern, an encoder step, five frame bytes or a function call is, and the encoder back. -/

namespace Sys2Proof

/-! ### Constants of R3 -/

/-- `SOF`, the start-of-frame delimiter. -/
abbrev sofByte : Byte := 0x00#8
/-- `ESC`, the escape marker. -/
abbrev escByte : Byte := 0xaa#8
/-- `EOF`, the end-of-frame delimiter. -/
abbrev eofByte : Byte := 0xff#8

/-- `X00`, `XAA`, `XFF`: the code byte of an escape pair (R63). -/
def EscCode.byte : EscCode → Byte
  | .x00 => 0xab#8
  | .xaa => 0xac#8
  | .xff => 0xad#8

/-- `unstuff_code` (R65): the symbol a code stands for. -/
def EscCode.symbol : EscCode → Byte
  | .x00 => 0x00#8
  | .xaa => 0xaa#8
  | .xff => 0xff#8

/-- The code of a reserved symbol, none for the 253 others (R64, R67). -/
def escCodeOf (v : Byte) : Option EscCode :=
  if v = 0x00#8 then some .x00
  else if v = 0xaa#8 then some .xaa
  else if v = 0xff#8 then some .xff
  else none

/-- `stuff(v)` (R64). -/
def stuff (v : Byte) : List Byte :=
  match escCodeOf v with
  | some c => [escByte, c.byte]
  | none   => [v]

/-- `CTL_BASE`, `CTL_RADIO`, `CTL_TELEM` (R3, R71, R171): the five wire bytes, first byte first. -/
def ctlBytes : Ctl → List Byte
  | .base  => [0x00#8, 0xaa#8, 0xae#8, 0xfe#8, 0xff#8]
  | .radio => [0x00#8, 0xaa#8, 0xaf#8, 0xb7#8, 0xff#8]
  | .telem => [0x00#8, 0xaa#8, 0xba#8, 0x6e#8, 0xff#8]

/-- `tx_cmd_ctl[1:0]`: 0 CTL_BASE, 1 CTL_RADIO, 2 CTL_TELEM (R29, R171). -/
def Ctl.code : Ctl → BitVec 2
  | .base  => 0#2
  | .radio => 1#2
  | .telem => 2#2

/-! ### Byte classes -/

/-- The seven classes of a wire byte (R66). -/
inductive ByteClass where
  | sof
  | esc
  | x00
  | xaa
  | xff
  | eof
  | dat
  deriving DecidableEq, Repr

/-- R66: the class is a function of the byte's value alone. -/
def classOf (b : Byte) : ByteClass :=
  if b = sofByte then .sof
  else if b = escByte then .esc
  else if b = 0xab#8 then .x00
  else if b = 0xac#8 then .xaa
  else if b = 0xad#8 then .xff
  else if b = eofByte then .eof
  else .dat

/-! ### What selects a row -/

/-- What R140 looks at besides the byte: `rx.mode`, `rx.esc`, "rx.len = ACC_CAP", and "rx.len > 1 and rx.crc = 0x53". -/
structure RxView where
  mode  : Mode
  esc   : Bool
  full  : Bool
  valid : Bool
  deriving DecidableEq, Repr

/-- What selects an encoder step (R117 to R121, R177): `tx.phase`, whether `tx.esc2` is valid, and the payload byte offered
on `tx_pl`, if one is. -/
structure TxView where
  phase   : Phase
  pending : Bool
  offered : Option Byte
  deriving DecidableEq, Repr

/-- Something a unit reads to find its next instruction: one constructor for each format of the opcode table, with the
state that selects a row and the bits. -/
inductive Code where
  | rxByte (v : RxView) (b : Byte)
  | txSym (v : Byte)
  | txCmd (w : BitVec 16)
  | txStep (v : TxView)
  | ctlFrame (bytes : List Byte)
  | function (f : FunCall)
  deriving DecidableEq, Repr

/-- Why a code is no instruction. -/
inductive DecodeError where
  /-- `tx_cmd_ctl = 3`, "not part of the interface" (U5). -/
  | controlCode3
  /-- Five bytes, or another number of them, that are none of the three control frames (R71). -/
  | notAControlFrame
  /-- No encoder step is enabled: phase TxIdle, or TxData with no payload byte offered (R119, R126). -/
  | noStep
  deriving DecidableEq, Repr

/-! ### Decoding -/

/-- RXBYTE rows: the table of R66, every cell filled, with the end-of-frame cell split by R147/R148 and the appending cells of
`rx.esc = 0` split by R150. With an escape pending the code rows stand for themselves and overflow inside (R145, log 16). -/
def decodeRx (v : RxView) (b : Byte) : Instr :=
  match v.mode, v.esc with
  | .idle, _ =>
    match classOf b with
    | .sof => .rxIdleSof
    | .esc => .rxIdleEsc
    | .x00 => .rxIdleX00
    | .xaa => .rxIdleXaa
    | .xff => .rxIdleXff
    | .eof => .rxIdleEof
    | .dat => .rxIdleDat b
  | .framing, false =>
    match classOf b with
    | .sof => .rxFramingSof
    | .esc => .rxFramingEsc
    | .x00 => if v.full then .rxFramingOverflow b else .rxFramingX00
    | .xaa => if v.full then .rxFramingOverflow b else .rxFramingXaa
    | .xff => if v.full then .rxFramingOverflow b else .rxFramingXff
    | .eof => if v.valid then .rxFramingEofValid else .rxFramingEofInvalid
    | .dat => if v.full then .rxFramingOverflow b else .rxFramingDat b
  | .framing, true =>
    match classOf b with
    | .sof => .rxFramingEscSof
    | .esc => .rxFramingEscEsc
    | .x00 => .rxFramingEscX00
    | .xaa => .rxFramingEscXaa
    | .xff => .rxFramingEscXff
    | .eof => .rxFramingEscEof
    | .dat => .rxFramingEscDat b

/-- TXSYM rows (R64, R67). -/
def decodeSym (v : Byte) : Instr :=
  match escCodeOf v with
  | some .x00 => .txStuffS00
  | some .xaa => .txStuffSaa
  | some .xff => .txStuffSff
  | none      => .txStuffOther v

/-- TXCMD rows: bit 15 is `tx_cmd_kind`, bits 14..2 `tx_cmd_len`, bits 1..0 `tx_cmd_ctl` (R29 and the table's note). -/
def decodeCmd (w : BitVec 16) : Except DecodeError Instr :=
  if w.extractLsb' 15 1 = 0#1 then
    .ok (.txAccept (w.extractLsb' 2 13) (w.extractLsb' 0 2))
  else if w.extractLsb' 0 2 = 0#2 then .ok (.sendControl (w.extractLsb' 2 13) .base)
  else if w.extractLsb' 0 2 = 1#2 then .ok (.sendControl (w.extractLsb' 2 13) .radio)
  else if w.extractLsb' 0 2 = 2#2 then .ok (.sendControl (w.extractLsb' 2 13) .telem)
  else .error .controlCode3

/-- TXSTEP rows: enabled when `tx.phase` is not TxIdle, "tried in the order R117, then by phase" (41_encoder.md section 2). -/
def decodeTxStep (v : TxView) : Except DecodeError Instr :=
  match v.phase, v.pending with
  | .txIdle, _ => .error .noStep
  | _, true => .ok .txEsc2
  | .txSof, false => .ok .txSof
  | .txData, false =>
    match v.offered with
    | some b => .ok (.txData b)
    | none   => .error .noStep
  | .txCrc, false => .ok .txCrc
  | .txEof, false => .ok .txEof
  | .txCtl, false => .ok .txCtl

/-- CTLFRAME rows (R71). -/
def decodeCtlFrame (bytes : List Byte) : Except DecodeError Instr :=
  if bytes = ctlBytes .base then .ok .ctlBase
  else if bytes = ctlBytes .radio then .ok .ctlRadio
  else if bytes = ctlBytes .telem then .ok .ctlTelem
  else .error .notAControlFrame

/-- A function call names its row; a symbol and a frame are decoded by their values. -/
def decodeCall (f : FunCall) : Except DecodeError Instr :=
  match f with
  | .encode p   => .ok (.encodeFrame p)
  | .crcGen     => .ok .crcGen
  | .crcUpd c b => .ok (.crcUpd c b)
  | .crcRaw s   => .ok (.crcRaw s)
  | .crcFin s   => .ok (.crcFin s)
  | .crcChk p   => .ok (.crcChk p)
  | .stuff v    => .ok (decodeSym v)
  | .frame bs   => decodeCtlFrame bs

/-- The decoder, total. -/
def decode : Code → Except DecodeError Instr
  | .rxByte v b   => .ok (decodeRx v b)
  | .txSym v      => .ok (decodeSym v)
  | .txCmd w      => decodeCmd w
  | .txStep v     => decodeTxStep v
  | .ctlFrame bs  => decodeCtlFrame bs
  | .function f   => decodeCall f

/-! ### Encoding -/

/-- The command pattern (the table's `0lllllllllllllxx` and `1xxxxxxxxxxxxxkk`). -/
def cmdWord (kind : BitVec 1) (len : BitVec 13) (ctl : BitVec 2) : BitVec 16 := kind ++ len ++ ctl

/-- The three decoder states of the RXBYTE rows, with the two tests of R140 false. -/
def RxView.atIdle : RxView := ⟨.idle, false, false, false⟩
/-- `rx.mode = Framing`, `rx.esc = 0`. -/
def RxView.atFraming : RxView := ⟨.framing, false, false, false⟩
/-- `rx.mode = Framing`, `rx.esc = 1`. -/
def RxView.atFramingEsc : RxView := ⟨.framing, true, false, false⟩

/-- The encoder: the bits of the row, with the table's state column that selects it. The rows without a pattern (TXSTEP,
FUNCTION) are named by what selects them. -/
def encode : Instr → Code
  | .rxIdleSof => .rxByte .atIdle 0x00#8
  | .rxIdleEsc => .rxByte .atIdle 0xaa#8
  | .rxIdleX00 => .rxByte .atIdle 0xab#8
  | .rxIdleXaa => .rxByte .atIdle 0xac#8
  | .rxIdleXff => .rxByte .atIdle 0xad#8
  | .rxIdleEof => .rxByte .atIdle 0xff#8
  | .rxIdleDat d => .rxByte .atIdle d
  | .rxFramingSof => .rxByte .atFraming 0x00#8
  | .rxFramingEsc => .rxByte .atFraming 0xaa#8
  | .rxFramingX00 => .rxByte .atFraming 0xab#8
  | .rxFramingXaa => .rxByte .atFraming 0xac#8
  | .rxFramingXff => .rxByte .atFraming 0xad#8
  | .rxFramingEofValid => .rxByte ⟨.framing, false, false, true⟩ 0xff#8
  | .rxFramingEofInvalid => .rxByte .atFraming 0xff#8
  | .rxFramingDat d => .rxByte .atFraming d
  | .rxFramingOverflow d => .rxByte ⟨.framing, false, true, false⟩ d
  | .rxFramingEscSof => .rxByte .atFramingEsc 0x00#8
  | .rxFramingEscEsc => .rxByte .atFramingEsc 0xaa#8
  | .rxFramingEscX00 => .rxByte .atFramingEsc 0xab#8
  | .rxFramingEscXaa => .rxByte .atFramingEsc 0xac#8
  | .rxFramingEscXff => .rxByte .atFramingEsc 0xad#8
  | .rxFramingEscEof => .rxByte .atFramingEsc 0xff#8
  | .rxFramingEscDat d => .rxByte .atFramingEsc d
  | .txStuffS00 => .txSym 0x00#8
  | .txStuffSaa => .txSym 0xaa#8
  | .txStuffSff => .txSym 0xff#8
  | .txStuffOther v => .txSym v
  | .encodeFrame p => .function (.encode p)
  | .txAccept len x => .txCmd (cmdWord 0#1 len x)
  | .sendControl x k => .txCmd (cmdWord 1#1 x k.code)
  | .txEsc2 => .txStep ⟨.txData, true, none⟩
  | .txSof => .txStep ⟨.txSof, false, none⟩
  | .txData b => .txStep ⟨.txData, false, some b⟩
  | .txCrc => .txStep ⟨.txCrc, false, none⟩
  | .txEof => .txStep ⟨.txEof, false, none⟩
  | .txCtl => .txStep ⟨.txCtl, false, none⟩
  | .crcGen => .function .crcGen
  | .crcUpd c b => .function (.crcUpd c b)
  | .crcRaw s => .function (.crcRaw s)
  | .crcFin s => .function (.crcFin s)
  | .crcChk p => .function (.crcChk p)
  | .ctlBase => .ctlFrame (ctlBytes .base)
  | .ctlRadio => .ctlFrame (ctlBytes .radio)
  | .ctlTelem => .ctlFrame (ctlBytes .telem)

/-- The bits the table gives a code's row, as bytes with the low one first; none for a row without a pattern. -/
def Code.bits : Code → List Byte
  | .rxByte _ b            => [b]
  | .txSym v               => [v]
  | .txCmd w               => [w.extractLsb' 0 8, w.extractLsb' 8 8]
  | .txStep _              => []
  | .ctlFrame bs           => bs
  | .function (.stuff v)   => [v]
  | .function (.frame bs)  => bs
  | .function _            => []

/-! ### Words numbered as the opcode table numbers them -/

/-- The `n` low bytes of `w`, the least significant first. -/
def lowBytes : Nat → Nat → List Byte
  | 0, _     => []
  | n + 1, w => BitVec.ofNat 8 w :: lowBytes n (w / 256)

/-- The bytes of a frame given as one number. The table's `match` has the "first byte leftmost / most significant", the
numbering of the fixed names has it least significant; a number that is a control frame in the former order is read so, any
other in the latter (log 11). -/
def tableFrame (nbits w : Nat) : List Byte :=
  match decodeCtlFrame (lowBytes (nbits / 8) w).reverse with
  | .ok _    => (lowBytes (nbits / 8) w).reverse
  | .error _ => lowBytes (nbits / 8) w

/-- The code that `nbits` bits of value `w` are: a byte is a wire byte, read in the decoder's reset state (log 10), sixteen bits are a
command pattern, anything else is frame bytes. -/
def tableCode (nbits w : Nat) : Code :=
  if nbits = 8 then .rxByte .atIdle (BitVec.ofNat 8 w)
  else if nbits = 16 then .txCmd (BitVec.ofNat 16 w)
  else .ctlFrame (tableFrame nbits w)

/-- The instruction the decoder reads from a word of the opcode table. -/
def decodeTableWord (nbits w : Nat) : Option Instr :=
  match decode (tableCode nbits w) with
  | .ok i    => some i
  | .error _ => none

end Sys2Proof
end

