-- ==== Sys2Proof/Machine/State.lean ====
section
/-! DEFINITION. The machine's state as plain data: the decoder's and the encoder's registers, the ports, the parameters,
the schedule; the reasons a step can stop; the state after reset (10_state.md). -/

namespace Sys2Proof.Machine

/-- Why the machine stops with a fault: never. The block has "no error state, no fault state and no final state" (R152); its
one `raise`, PayloadTooLarge, is an answer that leaves the state as it is (R186, R191). -/
inductive Fault where
  deriving DecidableEq, Repr

/-- Why a step or a meaning gives no next state. -/
inductive Refusal where
  /-- Raised by an arm of exec that has no meaning yet (safe): no arm has it. -/
  | notModelled (mnemonic : String)
  /-- Raised by exec, never by step, for a decoder or encoder row where R140 or tx.phase and tx.esc2 do not select it: the spec
  gives that transition in its own state only (safe, log 13). -/
  | notSelected
  /-- Raised by step for `SendControl(3)`, "not part of the interface", which U5 says to refuse (safe, log 15). -/
  | controlCode3
  /-- Raised by step for a call that names a control frame by bytes that are none of the three (safe, log 7). -/
  | notAControlFrame
  deriving DecidableEq, Repr

/-- The decoder's registers (R11 to R14). `rx.len` is the length of `acc` (R14). -/
structure Rx where
  mode : Mode
  esc  : Bool
  crc  : Byte
  acc  : List Byte
  deriving DecidableEq, Repr

/-- The encoder's registers (R17 to R21). `esc2 = none` is "invalid". -/
structure Tx where
  phase : Phase
  crc   : Byte
  rem   : Nat
  esc2  : Option EscCode
  ctl   : Ctl
  idx   : Fin 5
  deriving DecidableEq, Repr

/-- The drop causes of R187. -/
inductive Drop where
  | restart
  | malformedEscape
  | tooShort
  | crcMismatch
  | overflow
  deriving DecidableEq, Repr

/-- `tx_cmd_status` (R29): 0 Accepted, 1 PayloadTooLarge. -/
inductive CmdStatus where
  | accepted
  | payloadTooLarge
  deriving DecidableEq, Repr

/-- What a pure function returned to its caller (log 6): a byte, a byte sequence, `encode`'s PayloadTooLarge condition (R110), or the
residue with its comparison (R96, log 24). -/
inductive Ret where
  | nothing
  | byte (b : Byte)
  | bytes (bs : List Byte)
  | payloadTooLarge
  | residue (r : Byte) (valid : Bool)
  deriving DecidableEq, Repr

/-- Whose move it is (R199, log 2): a transfer on rx_in, an acknowledgement on rx_out, a transfer on tx_cmd, the link taking a
byte on tx_out, a call of a pure function, or `rst`. -/
inductive Turn where
  | rx
  | ack
  | cmd
  | tx
  | call (f : FunCall)
  | rst
  deriving DecidableEq, Repr

/-- Everything the spec gives the block, its ports, and the environment's side of them. -/
structure State where
  /-- R4's parameters; no step writes them (log 1). -/
  cfg         : Config
  rx          : Rx
  tx          : Tx
  /-- The wire bytes the link has still to present on `rx_in`, the next first (R27, R40). -/
  rxIn        : List Byte
  /-- The payload on offer on `rx_out` and not yet acknowledged (R28). -/
  rxOut       : Option (List Byte)
  /-- `rx_diag`: why the last decoder step dropped a frame, if it did (R32). -/
  rxDiag      : Option Drop
  /-- The payloads delivered so far, oldest first: the decoder's observation (R188). -/
  delivered   : List (List Byte)
  /-- The commands the producer has still to offer on `tx_cmd`, as 16-bit patterns, the next first (R29). -/
  txCmd       : List (BitVec 16)
  /-- `tx_cmd_status` of the last command taken, if any (R29). -/
  txCmdStatus : Option CmdStatus
  /-- The payload bytes the producer has still to offer on `tx_pl`, the next first (R30). -/
  txPl        : List Byte
  /-- The wire bytes emitted on `tx_out` so far, oldest first (R31). -/
  txOut       : List Byte
  /-- What the last function call returned. -/
  ret         : Ret
  /-- The schedule: whose move comes next. -/
  turns       : List Turn
  deriving DecidableEq, Repr

/-- `rx.len`, the length of the accumulator (R14). -/
abbrev Rx.len (r : Rx) : Nat := r.acc.length

/-- The decoder's reset values (R35); also the canonical idle state (R16). -/
def Rx.reset : Rx := ⟨.idle, false, 0x00#8, []⟩

/-- The encoder's reset values (R35). -/
def Tx.reset : Tx := ⟨.txIdle, 0x00#8, 0, none, .base, 0⟩

/-- The block right after reset, built with the parameters `c`. -/
def State.resetWith (c : Config) : State :=
  { cfg := c, rx := Rx.reset, tx := Tx.reset, rxIn := [], rxOut := none, rxDiag := none, delivered := [], txCmd := [],
    txCmdStatus := none, txPl := [], txOut := [], ret := .nothing, turns := [] }

/-- The machine right after reset (R35), with the default parameters (R4). -/
def State.reset : State := State.resetWith Config.default

/-- The accumulator ACC is the block's one memory (R40, R45). As a list it has one form only, index being position and no
byte existing at or beyond its length; well formed is: not longer than ACC_CAP (R14, log 17). -/
def Memory.wf (cap : Option Nat) (acc : List Byte) : Bool :=
  match cap with
  | none   => true
  | some n => decide (acc.length ≤ n)

end Sys2Proof.Machine
end

