-- ==== Sys2Proof/Machine/Operands.lean ====
section
/-! DEFINITION. What the units read: the views that select a row, the ports' ready and valid signals, the read port of
`rx_out`, the accumulator's reads. -/

namespace Sys2Proof.Machine

/-- `MAX_PAYLOAD` (R3, R111). -/
abbrev maxPayload : Nat := 4096
/-- `MIN_ACC` (R3): "greater than 1" (R147, C3). -/
abbrev minAcc : Nat := 2

/-- `MemRead(ACC, i, 1)` (R45): bytes at or beyond `rx.len` do not exist (U7). -/
def accRead (acc : List Byte) (i : Nat) : Option Byte := acc[i]?

/-- R140, R150: `rx.len = ACC_CAP`; never when ACC_CAP is none. -/
def State.accFull (s : State) : Bool := s.cfg.accCap == some s.rx.len

/-- R147: `rx.len > 1 and rx.crc = 0x53`. -/
def State.frameValid (s : State) : Bool := decide (minAcc ≤ s.rx.len) && s.rx.crc == crcResidue

/-- What the decoder's selection looks at (R140). -/
def State.rxView (s : State) : RxView := ⟨s.rx.mode, s.rx.esc, s.accFull, s.frameValid⟩

/-- What the encoder's selection looks at. -/
def State.txView (s : State) : TxView := ⟨s.tx.phase, s.tx.esc2.isSome, s.txPl.head?⟩

/-- R150: with byte `b` a symbol is about to be appended, by R149 or by R145. -/
def State.appends (s : State) (b : Byte) : Bool :=
  s.rx.mode == .framing &&
    if s.rx.esc then b == 0xab#8 || b == 0xac#8 || b == 0xad#8 else !isReservedValue b

/-- `rx_in_ready` (R27): deasserted only while a delivered payload is unacknowledged. -/
def State.rxInReady (s : State) : Bool := s.rxOut.isNone

/-- `tx_cmd_ready` (R29): asserted only in TxIdle. -/
def State.txCmdReady (s : State) : Bool := s.tx.phase == .txIdle

/-- `tx_pl_ready` (R30): asserted only in TxData with `tx.esc2` invalid. -/
def State.txPlReady (s : State) : Bool := s.tx.phase == .txData && s.tx.esc2.isNone

/-- `rx_out_len` (R28): the length of the payload on offer. With no payload on offer the spec leaves it open; that it then has no
value is the model's own, DESIGN CHOICE (log 32, safe). -/
def State.rxOutLen (s : State) : Option Nat :=
  match s.rxOut with
  | some p => some p.length
  | none   => none

/-- `rx_out_data` at `rx_out_addr = i` (R28): no value outside 0 to `rx_out_len - 1` or after the acknowledgement (U9, log 26). -/
def State.rxOutData (s : State) (i : Nat) : Option Byte :=
  match s.rxOut with
  | some p => p[i]?
  | none   => none

/-- The three bits of `rx_diag_cause` (R187); 0 means no drop. -/
def Drop.code : Option Drop → BitVec 3
  | none                  => 0#3
  | some .restart         => 1#3
  | some .malformedEscape => 2#3
  | some .tooShort        => 3#3
  | some .crcMismatch     => 4#3
  | some .overflow        => 5#3

end Sys2Proof.Machine
end

