-- ==== Sys2Proof/Machine/Flags.lean ====
section
/-! DEFINITION. The block's flags (R25): `rx.esc`, and the encoder's counterpart, the valid bit of `tx.esc2` with its code.
There are no condition codes, no carry and no overflow flag. -/

namespace Sys2Proof.Machine

/-- `rx.esc <- 1` (R144). -/
def Rx.setEsc (r : Rx) : Rx := { r with esc := true }

/-- `rx.esc <- 0` (R145). -/
def Rx.clearEsc (r : Rx) : Rx := { r with esc := false }

/-- `tx.esc2 <- valid(c)`, or invalid (R117, R119, R120). -/
def Tx.setEsc2 (t : Tx) (c : Option EscCode) : Tx := { t with esc2 := c }

end Sys2Proof.Machine
end

