-- ==== Sys2Proof/Machine/Ops.lean ====
section
/-! DEFINITION. The operations the meanings share: the decoder's, with `drop` in the place an exception entry has in a
processor, the hand-over of a payload, the encoder's emissions and command answers, the return of a function's value, reset. -/

namespace Sys2Proof.Machine

abbrev Answer := Host.Outcome State Fault Refusal

/-! ### Decoder -/

/-- A frame is open and nothing is collected (R141, R142, R192). -/
def Rx.fresh : Rx := ⟨.framing, false, crcInit, []⟩

/-- The canonical idle state (R16), which is the reset state (R35). -/
def Rx.canonicalIdle : Rx := Rx.reset

/-- `MemWrite(ACC, rx.len, 1, v); rx.len <- rx.len + 1` with the CRC folded over the symbol (R145, R149). -/
def Rx.append (r : Rx) (v : Byte) : Rx := { r with crc := crcUpdate r.crc v, acc := r.acc ++ [v] }

/-- A decoder step that drops nothing: the registers after it, and no cause on `rx_diag`. -/
def State.rxNext (s : State) (r : Rx) : State := { s with rx := r, rxDiag := none }

/-- `drop(cause)` (R187, R192), the one entry for all five causes. Nothing is saved and nothing leaves the block but the
diagnostic label: after Restart a new frame is open, after every other cause the decoder is canonically idle. Recovery
needs no return: the next `SOF` starts a clean frame (R194). -/
def State.drop (s : State) (cause : Drop) : State :=
  { s with
    rx := match cause with
      | .restart         => Rx.fresh
      | .malformedEscape => Rx.canonicalIdle
      | .tooShort        => Rx.canonicalIdle
      | .crcMismatch     => Rx.canonicalIdle
      | .overflow        => Rx.canonicalIdle
    rxDiag := some cause }

/-- R141. -/
def State.startFrame (s : State) : State := s.rxNext Rx.fresh

/-- R142: "drop(Restart) if rx.len > 0 or rx.esc = 1", a label only; the registers end as after R141 either way. -/
def State.restartFrame (s : State) : State :=
  if 0 < s.rx.len ∨ s.rx.esc = true then s.drop .restart else s.startFrame

/-- R143: consumed and ignored. -/
def State.ignoreByte (s : State) : State := s.rxNext s.rx

/-- R144: the flag is set, the byte is not stored. -/
def State.openEscape (s : State) : State := s.rxNext s.rx.setEsc

/-- R149, or R150 instead when the accumulator is full. -/
def State.takeData (s : State) (v : Byte) : State :=
  if s.accFull then s.drop .overflow else s.rxNext (s.rx.append v)

/-- R145, or R150 instead when the accumulator is full. -/
def State.takeEscaped (s : State) (c : EscCode) : State :=
  if s.accFull then s.drop .overflow else s.rxNext (s.rx.append c.symbol).clearEsc

/-- `deliver(p)` with R147's payload, "all but the last byte": offered on `rx_out` until acknowledged (R28, R155), and the
decoder canonically idle. -/
def State.deliver (s : State) : State :=
  { s.rxNext Rx.canonicalIdle with
    rxOut := some s.rx.acc.dropLast
    delivered := s.delivered ++ [s.rx.acc.dropLast] }

/-- R148: "The length test comes first". -/
def State.discardFrame (s : State) : State :=
  if s.rx.len < minAcc then s.drop .tooShort else s.drop .crcMismatch

/-- `rx_out_ack` (R28): the payload is taken and the decoder may go on. -/
def State.acknowledge (s : State) : State := { s with rxOut := none }

/-- A decoder row: while a payload is held no wire byte is taken and the decoder waits (R28, R155); where the row is selected
it fires; elsewhere it is not that state's transition (log 13, log 14). -/
def State.rxRow (s : State) (selected : Bool) (after : State) : Answer :=
  if s.rxInReady then
    if selected then .next after else .refused .notSelected
  else .next s

/-! ### Encoder -/

/-- `emit(v)`: one byte on `tx_out`. -/
def State.emit (s : State) (v : Byte) : State := { s with txOut := s.txOut ++ [v] }

/-- The first byte of `stuff(v)` (R119, R120): a reserved symbol emits ESC and leaves its code pending, any other is emitted as
itself. -/
def State.emitSymbol (s : State) (v : Byte) : State :=
  match escCodeOf v with
  | some c => { s with tx := s.tx.setEsc2 (some c) }.emit escByte
  | none   => s.emit v

/-- `raise PayloadTooLarge` at `TX.ACCEPT` (R186, R191): the status, and nothing else. -/
def State.raiseTooLarge (s : State) : State := { s with txCmdStatus := some .payloadTooLarge }

/-- A command is taken (R116): the encoder's registers and the status. -/
def State.acceptCommand (s : State) (t : Tx) : State := { s with tx := t, txCmdStatus := some .accepted }

/-- An encoder emit step, in the phase and with the escape state that select it. -/
def State.txRow (s : State) (phase : Phase) (after : State) : Answer :=
  if s.tx.phase = phase ∧ s.tx.esc2 = none then .next after else .refused .notSelected

/-! ### Functions -/

/-- `frame(p)` (R61) for a payload of any length. -/
def frameBytes (p : List Byte) : List Byte :=
  sofByte :: (p ++ [computeCrc p]).flatMap stuff ++ [eofByte]

/-- A pure function returns a value and does nothing else (R100, R115, log 6). -/
def State.answer (s : State) (r : Ret) : State := { s with ret := r }

/-! ### Reset -/

/-- `rst` (R33, R220 to R222): every register takes its reset value, nothing is on offer. What has already left the block and
what the environment still holds stays (log 20). -/
def State.applyReset (s : State) : State :=
  { s with rx := Rx.reset, tx := Tx.reset, rxOut := none, rxDiag := none, txCmdStatus := none }

end Sys2Proof.Machine
end

