-- ==== Sys2Proof/Machine/Decoder.lean ====
section
/-! DEFINITION. The decoder (42_decoder.md): the meaning of each RXBYTE row, R140's step written as one chain, and the
decoder as a function of the stream (R151). -/

namespace Sys2Proof.Machine

/-- The three states the RXBYTE rows are grouped by. -/
def State.inIdle (s : State) : Bool := s.rx.mode == .idle
def State.inFraming (s : State) : Bool := s.rx.mode == .framing && !s.rx.esc
def State.inFramingEsc (s : State) : Bool := s.rx.mode == .framing && s.rx.esc

/-! ### rx.mode = Idle -/

/-- R141. -/
def execRxIdleSof (s : State) : Answer := s.rxRow s.inIdle s.startFrame
/-- R143. -/
def execRxIdleEsc (s : State) : Answer := s.rxRow s.inIdle s.ignoreByte
/-- R143. -/
def execRxIdleX00 (s : State) : Answer := s.rxRow s.inIdle s.ignoreByte
/-- R143. -/
def execRxIdleXaa (s : State) : Answer := s.rxRow s.inIdle s.ignoreByte
/-- R143. -/
def execRxIdleXff (s : State) : Answer := s.rxRow s.inIdle s.ignoreByte
/-- R143: "an `EOF` with no frame open delivers nothing". -/
def execRxIdleEof (s : State) : Answer := s.rxRow s.inIdle s.ignoreByte
/-- R143: the byte's value is not looked at. -/
def execRxIdleDat (_d : Byte) (s : State) : Answer := s.rxRow s.inIdle s.ignoreByte

/-! ### rx.mode = Framing, rx.esc = 0 -/

/-- R142. -/
def execRxFramingSof (s : State) : Answer := s.rxRow s.inFraming s.restartFrame
/-- R144. -/
def execRxFramingEsc (s : State) : Answer := s.rxRow s.inFraming s.openEscape
/-- R149: a code value is plain data here; R150 when full. -/
def execRxFramingX00 (s : State) : Answer := s.rxRow s.inFraming (s.takeData 0xab#8)
/-- R149; R150 when full. -/
def execRxFramingXaa (s : State) : Answer := s.rxRow s.inFraming (s.takeData 0xac#8)
/-- R149; R150 when full. -/
def execRxFramingXff (s : State) : Answer := s.rxRow s.inFraming (s.takeData 0xad#8)
/-- R147. -/
def execRxFramingEofValid (s : State) : Answer := s.rxRow (s.inFraming && s.frameValid) s.deliver
/-- R148. -/
def execRxFramingEofInvalid (s : State) : Answer := s.rxRow (s.inFraming && !s.frameValid) s.discardFrame
/-- R149; R150 when full. -/
def execRxFramingDat (d : Byte) (s : State) : Answer := s.rxRow s.inFraming (s.takeData d)
/-- R150: by the row's note also with an escape pending and a code byte. -/
def execRxFramingOverflow (d : Byte) (s : State) : Answer := s.rxRow (s.accFull && s.appends d) (s.drop .overflow)

/-! ### rx.mode = Framing, rx.esc = 1 -/

/-- R142 under `ESC_THEN_SOF = restart`, R146 under `abort` (D5). -/
def execRxFramingEscSof (s : State) : Answer :=
  s.rxRow s.inFramingEsc <|
    match s.cfg.escThenSof with
    | .restart => s.restartFrame
    | .abort   => s.drop .malformedEscape
/-- R144 under `ESC_THEN_ESC = stay_pending`, R146 under `abort` (D6). -/
def execRxFramingEscEsc (s : State) : Answer :=
  s.rxRow s.inFramingEsc <|
    match s.cfg.escThenEsc with
    | .stayPending => s.openEscape
    | .abort       => s.drop .malformedEscape
/-- R145; R150 when full. -/
def execRxFramingEscX00 (s : State) : Answer := s.rxRow s.inFramingEsc (s.takeEscaped .x00)
/-- R145; R150 when full. -/
def execRxFramingEscXaa (s : State) : Answer := s.rxRow s.inFramingEsc (s.takeEscaped .xaa)
/-- R145; R150 when full. -/
def execRxFramingEscXff (s : State) : Answer := s.rxRow s.inFramingEsc (s.takeEscaped .xff)
/-- R146: "`aa ff` aborts". -/
def execRxFramingEscEof (s : State) : Answer := s.rxRow s.inFramingEsc (s.drop .malformedEscape)
/-- R146: every malformed code behaves alike (U15), the control command bytes among them. -/
def execRxFramingEscDat (_d : Byte) (s : State) : Answer := s.rxRow s.inFramingEsc (s.drop .malformedEscape)

/-! ### R140 as one chain, and the stream function -/

/-- `rx_step(b)` (R140): the conditions in the order the rule lists them, the first that holds wins. The rows above are its
cells; this is the same machine written the rule's other way. -/
def rxStep (b : Byte) (s : State) : State :=
  if b = 0x00#8 ∧ s.rx.mode = .idle then s.startFrame
  else if b = 0x00#8 then
    if s.rx.esc = true ∧ s.cfg.escThenSof = .abort then s.drop .malformedEscape else s.restartFrame
  else if s.rx.mode = .idle then s.ignoreByte
  else if b = 0xaa#8 then
    if s.rx.esc = true ∧ s.cfg.escThenEsc = .abort then s.drop .malformedEscape else s.openEscape
  else if s.rx.esc = true ∧ b = 0xab#8 then s.takeEscaped .x00
  else if s.rx.esc = true ∧ b = 0xac#8 then s.takeEscaped .xaa
  else if s.rx.esc = true ∧ b = 0xad#8 then s.takeEscaped .xff
  else if s.rx.esc = true then s.drop .malformedEscape
  else if b = 0xff#8 then
    if s.frameValid then s.deliver else s.discardFrame
  else s.takeData b

/-- The decoder over a byte sequence with a consumer that acknowledges every payload at once (R151, R155). -/
def rxFeed : List Byte → State → State
  | [], s      => s
  | b :: bs, s => rxFeed bs (rxStep b s).acknowledge

/-- `decode(s)` (R151): the payloads delivered from the reset state, in order. -/
def decodeStream (c : Config) (bs : List Byte) : List (List Byte) := (rxFeed bs (State.resetWith c)).delivered

end Sys2Proof.Machine
end

