-- ==== Sys2Proof/Machine/Encoder.lean ====
section
/-! DEFINITION. The streaming encoder (41_encoder.md section 2): command acceptance and the emit steps, the control frame's
among them (43_control_commands.md). -/

namespace Sys2Proof.Machine

/-- R116, `SendPayload(len)`: not taken while `tx_cmd_ready` is low, it waits; too long is refused with nothing changed (R191);
else the frame is open. The field `x` is ignored. -/
def execTxAccept (len : BitVec 13) (_x : BitVec 2) (s : State) : Answer :=
  if s.txCmdReady then
    if maxPayload < len.toNat then .next s.raiseTooLarge
    else .next (s.acceptCommand { s.tx with rem := len.toNat, crc := crcInit, esc2 := none, phase := .txSof })
  else .next s

/-- R116, R172, `SendControl(k)`: not taken while `tx_cmd_ready` is low. The field `x` is ignored. -/
def execSendControl (_x : BitVec 13) (k : Ctl) (s : State) : Answer :=
  if s.txCmdReady then .next (s.acceptCommand { s.tx with ctl := k, idx := 0, phase := .txCtl })
  else .next s

/-- R117: the second byte of a pair, in any phase in which an emit step is enabled (log 22). -/
def execTxEsc2 (s : State) : Answer :=
  match s.tx.esc2 with
  | some c =>
    if s.tx.phase = .txIdle then .refused .notSelected
    else .next ({ s with tx := s.tx.setEsc2 none }.emit c.byte)
  | none => .refused .notSelected

/-- R118: "with `tx.rem = 0` the encoder goes straight to the CRC symbol". -/
def execTxSof (s : State) : Answer :=
  s.txRow .txSof
    ({ s with tx := { s.tx with phase := if 0 < s.tx.rem then .txData else .txCrc } }.emit sofByte)

/-- R119: the CRC is updated with the symbol, never with the wire bytes; the phase turns when the new `tx.rem` is 0. -/
def execTxData (b : Byte) (s : State) : Answer :=
  s.txRow .txData
    ({ s with tx := { s.tx with
        crc := crcUpdate s.tx.crc b
        rem := s.tx.rem - 1
        phase := if s.tx.rem - 1 = 0 then .txCrc else .txData } }.emitSymbol b)

/-- R120: the CRC symbol, stuffed as a payload symbol is. -/
def execTxCrc (s : State) : Answer :=
  s.txRow .txCrc ({ s with tx := { s.tx with phase := .txEof } }.emitSymbol (s.tx.crc ^^^ crcXorOut))

/-- R121. -/
def execTxEof (s : State) : Answer :=
  s.txRow .txEof ({ s with tx := { s.tx with phase := .txIdle } }.emit eofByte)

/-- Byte `i` of the control frame (R177). -/
def ctlByte (k : Ctl) (i : Fin 5) : Byte := (ctlBytes k).getD i.val 0x00#8

/-- R177: `tx.crc`, `tx.rem` and `tx.esc2` are neither read nor written; the order of the emit steps puts a pending `tx.esc2` first
(log 22). -/
def execTxCtl (s : State) : Answer :=
  s.txRow .txCtl
    ({ s with tx := if s.tx.idx = 4 then { s.tx with phase := .txIdle, idx := 0 }
                    else { s.tx with idx := s.tx.idx + 1 } }.emit (ctlByte s.tx.ctl s.tx.idx))

end Sys2Proof.Machine
end

