-- ==== Sys2Proof/Machine/Functions.lean ====
section
/-! DEFINITION. The block's pure functions: the CRC rows (40_crc.md), `encode` (R110), `stuff` (R64) and the constant control
frames (R171, R172). Each returns a value to its caller and changes nothing else (R100, R115, log 6). -/

namespace Sys2Proof.Machine

/-- R91: the table, index 0 first (log 29). -/
def execCrcGen (s : State) : Answer := .next (s.answer (.bytes crcTable))
/-- R93. -/
def execCrcUpd (c b : Byte) (s : State) : Answer := .next (s.answer (.byte (crcUpdate c b)))
/-- R94. -/
def execCrcRaw (bs : List Byte) (s : State) : Answer := .next (s.answer (.byte (crcRaw bs)))
/-- R95. -/
def execCrcFin (bs : List Byte) (s : State) : Answer := .next (s.answer (.byte (computeCrc bs)))
/-- R96: the raw register over `p` and its checksum, and whether it is the residue (log 24). -/
def execCrcChk (p : List Byte) (s : State) : Answer :=
  .next (s.answer (.residue (crcRaw (p ++ [computeCrc p])) (crcRaw (p ++ [computeCrc p]) == crcResidue)))

/-- R110, R111: the test is on the payload's length, before anything else. -/
def execEncodeFrame (p : List Byte) (s : State) : Answer :=
  .next (s.answer (if maxPayload < p.length then .payloadTooLarge else .bytes (frameBytes p)))

/-- R64. -/
def execTxStuffS00 (s : State) : Answer := .next (s.answer (.bytes (stuff 0x00#8)))
/-- R64. -/
def execTxStuffSaa (s : State) : Answer := .next (s.answer (.bytes (stuff 0xaa#8)))
/-- R64. -/
def execTxStuffSff (s : State) : Answer := .next (s.answer (.bytes (stuff 0xff#8)))
/-- R64: emitted as itself. -/
def execTxStuffOther (v : Byte) (s : State) : Answer := .next (s.answer (.bytes [v]))

/-- R171, R172: `control(0)`. -/
def execCtlBase (s : State) : Answer := .next (s.answer (.bytes (ctlBytes .base)))
/-- R171, R172: `control(1)`. -/
def execCtlRadio (s : State) : Answer := .next (s.answer (.bytes (ctlBytes .radio)))
/-- R171, R172: `control(2)`. -/
def execCtlTelem (s : State) : Answer := .next (s.answer (.bytes (ctlBytes .telem)))

end Sys2Proof.Machine
end

