-- ==== Sys2Proof/Machine/Dispatch.lean ====
section
/-! DEFINITION. The meaning of every instruction: one arm per row of the opcode table. -/

namespace Sys2Proof.Machine

/-- One arm per constructor of Instr. -/
def exec (i : Instr) (s : State) : Host.Outcome State Fault Refusal :=
  match i with
  | .rxIdleSof => Sys2Proof.Machine.execRxIdleSof s
  | .rxIdleEsc => Sys2Proof.Machine.execRxIdleEsc s
  | .rxIdleX00 => Sys2Proof.Machine.execRxIdleX00 s
  | .rxIdleXaa => Sys2Proof.Machine.execRxIdleXaa s
  | .rxIdleXff => Sys2Proof.Machine.execRxIdleXff s
  | .rxIdleEof => Sys2Proof.Machine.execRxIdleEof s
  | .rxIdleDat d => Sys2Proof.Machine.execRxIdleDat d s
  | .rxFramingSof => Sys2Proof.Machine.execRxFramingSof s
  | .rxFramingEsc => Sys2Proof.Machine.execRxFramingEsc s
  | .rxFramingX00 => Sys2Proof.Machine.execRxFramingX00 s
  | .rxFramingXaa => Sys2Proof.Machine.execRxFramingXaa s
  | .rxFramingXff => Sys2Proof.Machine.execRxFramingXff s
  | .rxFramingEofValid => Sys2Proof.Machine.execRxFramingEofValid s
  | .rxFramingEofInvalid => Sys2Proof.Machine.execRxFramingEofInvalid s
  | .rxFramingDat d => Sys2Proof.Machine.execRxFramingDat d s
  | .rxFramingOverflow d => Sys2Proof.Machine.execRxFramingOverflow d s
  | .rxFramingEscSof => Sys2Proof.Machine.execRxFramingEscSof s
  | .rxFramingEscEsc => Sys2Proof.Machine.execRxFramingEscEsc s
  | .rxFramingEscX00 => Sys2Proof.Machine.execRxFramingEscX00 s
  | .rxFramingEscXaa => Sys2Proof.Machine.execRxFramingEscXaa s
  | .rxFramingEscXff => Sys2Proof.Machine.execRxFramingEscXff s
  | .rxFramingEscEof => Sys2Proof.Machine.execRxFramingEscEof s
  | .rxFramingEscDat d => Sys2Proof.Machine.execRxFramingEscDat d s
  | .txStuffS00 => Sys2Proof.Machine.execTxStuffS00 s
  | .txStuffSaa => Sys2Proof.Machine.execTxStuffSaa s
  | .txStuffSff => Sys2Proof.Machine.execTxStuffSff s
  | .txStuffOther v => Sys2Proof.Machine.execTxStuffOther v s
  | .encodeFrame p => Sys2Proof.Machine.execEncodeFrame p s
  | .txAccept len x => Sys2Proof.Machine.execTxAccept len x s
  | .sendControl x k => Sys2Proof.Machine.execSendControl x k s
  | .txEsc2 => Sys2Proof.Machine.execTxEsc2 s
  | .txSof => Sys2Proof.Machine.execTxSof s
  | .txData b => Sys2Proof.Machine.execTxData b s
  | .txCrc => Sys2Proof.Machine.execTxCrc s
  | .txEof => Sys2Proof.Machine.execTxEof s
  | .txCtl => Sys2Proof.Machine.execTxCtl s
  | .crcGen => Sys2Proof.Machine.execCrcGen s
  | .crcUpd c b => Sys2Proof.Machine.execCrcUpd c b s
  | .crcRaw bs => Sys2Proof.Machine.execCrcRaw bs s
  | .crcFin bs => Sys2Proof.Machine.execCrcFin bs s
  | .crcChk p => Sys2Proof.Machine.execCrcChk p s
  | .ctlBase => Sys2Proof.Machine.execCtlBase s
  | .ctlRadio => Sys2Proof.Machine.execCtlRadio s
  | .ctlTelem => Sys2Proof.Machine.execCtlTelem s

end Sys2Proof.Machine
end

