-- ==== Sys2Proof/Machine/Fetch.lean ====
section
/-! DEFINITION. How a step finds its instruction: whose turn it is, whether that agent's transfer can happen, what is taken
from the port, and which row it is. -/

namespace Sys2Proof.Machine

/-- What the next turn of the schedule comes to. -/
inductive Fetched where
  /-- No instruction: an acknowledgement, a reset, or a unit that has to wait; `s` is the state after it. -/
  | event (s : State)
  /-- Run `i` in `s`, the state with its turn and its input taken. -/
  | run (i : Instr) (s : State)
  /-- What was presented is no instruction. -/
  | reject (r : Refusal)

/-- A refusal for a code that is no instruction; a unit with no enabled step waits instead (R126, R227). -/
def rejection : DecodeError → State → Fetched
  | .controlCode3, _     => .reject .controlCode3
  | .notAControlFrame, _ => .reject .notAControlFrame
  | .noStep, s           => .event s

/-- The instruction a code is, to run in `s'`; where no step is enabled, wait in `s`. -/
def runCode (c : Code) (s s' : State) : Fetched :=
  match decode c with
  | .ok i    => .run i s'
  | .error e => rejection e s

/-- The link presents a byte (R27): taken only when `rx_in_ready`, exactly once (R44). -/
def fetchRx (s : State) : Fetched :=
  match s.rxIn with
  | []      => .event s
  | b :: bs => if s.rxInReady then runCode (.rxByte s.rxView b) s { s with rxIn := bs } else .event s

/-- The producer offers a command (R29): taken only when `tx_cmd_ready`; otherwise it waits (R116). -/
def fetchCmd (s : State) : Fetched :=
  match s.txCmd with
  | []      => .event s
  | w :: ws => if s.txCmdReady then runCode (.txCmd w) s { s with txCmd := ws } else .event s

/-- The link takes a byte (R31): the enabled emit step, if there is one. `TX.DATA` takes the payload byte offered on `tx_pl`
(R30, R119); no other step takes one. -/
def fetchTx (s : State) : Fetched :=
  runCode (.txStep s.txView) s (if s.txPlReady then { s with txPl := s.txPl.tail } else s)

/-- One turn: `s` is the state with the turn taken off the schedule. -/
def fetchTurn (t : Turn) (s : State) : Fetched :=
  match t with
  | .rx     => fetchRx s
  | .ack    => .event s.acknowledge
  | .cmd    => fetchCmd s
  | .tx     => fetchTx s
  | .call f => runCode (.function f) s s
  | .rst    => .event s.applyReset

/-- The next turn, or none: then nothing happens (R227, log 3). -/
def fetch (s : State) : Fetched :=
  match s.turns with
  | []      => .event s
  | t :: ts => fetchTurn t { s with turns := ts }

/-- Put a word of the opcode table where the next step takes its instruction from (log 12): a wire byte on `rx_in` with the decoder
ready, a command on `tx_cmd` with the encoder ready, or a call that names a control frame; and the turn that takes it. -/
def State.placeWord (s : State) (nbits w : Nat) : State :=
  match tableCode nbits w with
  | .rxByte _ b  => { s with rxOut := none, rxIn := b :: s.rxIn, turns := .rx :: s.turns }
  | .txCmd c     => { s with tx := { s.tx with phase := .txIdle }, txCmd := c :: s.txCmd, turns := .cmd :: s.turns }
  | .ctlFrame bs => { s with turns := .call (.frame bs) :: s.turns }
  | .txSym v     => { s with turns := .call (.stuff v) :: s.turns }
  | .function f  => { s with turns := .call f :: s.turns }
  | .txStep _    => { s with turns := .tx :: s.turns }

end Sys2Proof.Machine
end

