-- ==== Sys2Proof/Machine/Step.lean ====
section
/-! DEFINITION. One step of the block: the next turn's transfer, and the instruction it selects. -/

namespace Sys2Proof.Machine

/-- R6: one step is one transfer. -/
def step (s : State) : Host.Outcome State Fault Refusal :=
  match fetch s with
  | .event t  => .next t
  | .run i t  => exec i t
  | .reject r => .refused r

/-- `s` with the instruction of an opcode-table word placed where `step` takes its next one from. -/
def State.withFetchWord (s : State) (nbits w : Nat) : State := s.placeWord nbits w

end Sys2Proof.Machine
end

