-- ==== Sys2Proof/Safety.lean ====
section
/-! DEFINITION. What a safe run is, in the terms the statements use: the invariants of the decoder, the encoder and the hand-over,
runs of several steps, and the parts of a state a statement compares. -/

namespace Sys2Proof.Machine

/-- The decoder: in Idle every register holds the canonical values (R16); in Framing the running CRC is the raw CRC of the
accumulator (R13); the accumulator never outgrows ACC_CAP (R14). -/
abbrev RxInv (s : State) : Prop :=
  (s.rx.mode = .idle → s.rx = Rx.canonicalIdle) ∧
  (s.rx.mode = .framing → s.rx.crc = crcRaw s.rx.acc) ∧
  Memory.wf s.cfg.accCap s.rx.acc = true

/-- The encoder: `tx.rem` is at most 4096, at least 1 in TxData and 0 once the payload is consumed (R19, R119); no code is pending
where none can be (R20); `tx.idx` is meaningful only in TxCtl and 0 elsewhere (R21, R177). -/
abbrev TxInv (s : State) : Prop :=
  s.tx.rem ≤ maxPayload ∧
  (s.tx.phase = .txData → 1 ≤ s.tx.rem) ∧
  (s.tx.phase ≠ .txData → s.tx.phase ≠ .txSof → s.tx.rem = 0) ∧
  (s.tx.phase = .txIdle ∨ s.tx.phase = .txSof ∨ s.tx.phase = .txCtl → s.tx.esc2 = none) ∧
  (s.tx.phase ≠ .txCtl → s.tx.idx = 0)

/-- The hand-over: while a payload is on offer the decoder is in Idle, and the payload is the last one delivered and has a byte
(R28, R147, R155). -/
abbrev HoldInv (s : State) : Prop :=
  ∀ p ∈ s.rxOut, s.rx.mode = .idle ∧ p ≠ [] ∧ s.delivered.getLast? = some p

/-- The invariant of the whole machine. The parameters are legal ones (R4). -/
abbrev Inv (s : State) : Prop := s.cfg.wf = true ∧ RxInv s ∧ TxInv s ∧ HoldInv s

/-- `n` steps, stopping at the first that gives no next state. -/
def runSteps : Nat → State → Answer
  | 0, s     => .next s
  | n + 1, s =>
    match step s with
    | .next t    => runSteps n t
    | .fault r   => .fault r
    | .refused r => .refused r

/-- `f` applied to the next state of an answer. -/
def mapNext (f : State → State) : Answer → Answer
  | .next t    => .next (f t)
  | .fault r   => .fault r
  | .refused r => .refused r

/-- The schedule of a link that presents `n` bytes to a decoder whose consumer acknowledges at once. -/
def listenTurns : Nat → List Turn
  | 0     => []
  | n + 1 => .rx :: .ack :: listenTurns n

/-- A turn of the encoder's side: a command, or the link taking a byte. -/
def isTxTurn : Turn → Bool
  | .cmd    => true
  | .tx     => true
  | .rx     => false
  | .ack    => false
  | .call _ => false
  | .rst    => false

/-- A turn of the decoder's side: a byte from the link, or an acknowledgement. -/
def isRxTurn : Turn → Bool
  | .rx     => true
  | .ack    => true
  | .cmd    => false
  | .tx     => false
  | .call _ => false
  | .rst    => false

/-- The row is one of the table's RXBYTE format. -/
def isRxByteRow (i : Instr) : Bool :=
  match encode i with
  | .rxByte _ _   => true
  | .txSym _      => false
  | .txCmd _      => false
  | .txStep _     => false
  | .ctlFrame _   => false
  | .function _   => false

/-- The row is one of the table's TXCMD or TXSTEP formats. -/
def isTxRow (i : Instr) : Bool :=
  match encode i with
  | .rxByte _ _   => false
  | .txSym _      => false
  | .txCmd _      => true
  | .txStep _     => true
  | .ctlFrame _   => false
  | .function _   => false

/-- The row is one of the table's TXSYM, FUNCTION or CTLFRAME formats: a pure function of its operands. -/
def isFunctionRow (i : Instr) : Bool :=
  match encode i with
  | .rxByte _ _   => false
  | .txSym _      => true
  | .txCmd _      => false
  | .txStep _     => false
  | .ctlFrame _   => true
  | .function _   => true

end Sys2Proof.Machine
end

