-- ==== Sys2Proof/Certificates/Slice0/Obligations.lean ====
section
/-! DEFINITION. The statements for the provers. Each names the rule of spec/ it formalises. A statement that gives the whole
next state with "s with" says its frame with it: every field not named is as before. -/

open Sys2Proof Sys2Proof.Machine

/-! ### Encoding -/

/-- R29, R66, R67, R71 and the opcode table: the encoder and the decoder agree in both directions. Every well-formed instruction
is read back with every operand; whatever decodes is well formed and carries the very bits it was read from. -/
def Obligations.DecodeAndEncodeAgree : Prop :=
  (∀ i : Instr, wellFormed i = true → decode (encode i) = .ok i) ∧
  (∀ (c : Code) (i : Instr), decode c = .ok i → wellFormed i = true ∧ (encode i).bits = c.bits)

/-- Words of the opcode table, one of each format, written out bit by bit. -/
def Obligations.TableWordsDecodeToTheirRows : Prop :=
  decode (.rxByte ⟨.idle, false, false, false⟩ 0b00000000#8) = .ok .rxIdleSof ∧
  decode (.rxByte ⟨.framing, false, false, false⟩ 0b10101010#8) = .ok .rxFramingEsc ∧
  decode (.rxByte ⟨.framing, false, false, false⟩ 0b10101101#8) = .ok .rxFramingXff ∧
  decode (.rxByte ⟨.framing, true, false, false⟩ 0b10101011#8) = .ok .rxFramingEscX00 ∧
  decode (.rxByte ⟨.framing, false, false, true⟩ 0b11111111#8) = .ok .rxFramingEofValid ∧
  decode (.rxByte ⟨.framing, false, true, false⟩ 0b00110111#8) = .ok (.rxFramingOverflow 0x37#8) ∧
  decode (.txSym 0b10101010#8) = .ok .txStuffSaa ∧
  decode (.txCmd 0b0100000000000100#16) = .ok (.txAccept 4097#13 0#2) ∧
  decode (.txCmd 0b1000000000000010#16) = .ok (.sendControl 0#13 .telem) ∧
  decode (.ctlFrame [0b00000000#8, 0b10101010#8, 0b10101110#8, 0b11111110#8, 0b11111111#8]) = .ok .ctlBase ∧
  decodeTableWord 8 0xaa = some .rxIdleEsc ∧
  decodeTableWord 16 0x8001 = some (.sendControl 0#13 .radio)

/-! ### The step -/

/-- R6, R27, R29, R30, R31: a step takes one transfer and runs the row its code decodes to, in the state with the turn and the
input taken. (The schedule is the model's, log 2.) -/
def Obligations.StepRunsTheDecodedInstruction : Prop :=
  (∀ (s : State) (ts : List Turn) (b : Byte) (bs : List Byte) (i : Instr), s.turns = .rx :: ts → s.rxIn = b :: bs →
    s.rxOut = none → decode (.rxByte s.rxView b) = .ok i → step s = exec i { s with turns := ts, rxIn := bs }) ∧
  (∀ (s : State) (ts : List Turn) (w : BitVec 16) (ws : List (BitVec 16)) (i : Instr), s.turns = .cmd :: ts →
    s.txCmd = w :: ws → s.tx.phase = .txIdle → decode (.txCmd w) = .ok i →
    step s = exec i { s with turns := ts, txCmd := ws }) ∧
  (∀ (s : State) (ts : List Turn) (i : Instr), s.turns = .tx :: ts → decode (.txStep s.txView) = .ok i →
    step s = exec i { s with
      turns := ts
      txPl := if s.tx.phase = .txData ∧ s.tx.esc2 = none then s.txPl.tail else s.txPl }) ∧
  (∀ (s : State) (ts : List Turn) (f : FunCall) (i : Instr), s.turns = .call f :: ts → decode (.function f) = .ok i →
    step s = exec i { s with turns := ts })

/-- R28, R29, R116, R126, R155, R227: an agent whose transfer cannot happen waits; its turn is used up, nothing else changes, and
what it offered stays offered. Nothing happens with no turn left (the model's reading of waiting, log 3). A command row run while
the encoder is busy changes nothing either (log 14). -/
def Obligations.WaitingChangesNothingElse : Prop :=
  (∀ s : State, s.turns = [] → step s = .next s) ∧
  (∀ (s : State) (ts : List Turn), s.turns = .rx :: ts → s.rxIn = [] ∨ s.rxOut ≠ none →
    step s = .next { s with turns := ts }) ∧
  (∀ (s : State) (ts : List Turn), s.turns = .cmd :: ts → s.txCmd = [] ∨ s.tx.phase ≠ .txIdle →
    step s = .next { s with turns := ts }) ∧
  (∀ (s : State) (ts : List Turn), s.turns = .tx :: ts →
    s.tx.phase = .txIdle ∨ (s.tx.phase = .txData ∧ s.tx.esc2 = none ∧ s.txPl = []) →
    step s = .next { s with turns := ts }) ∧
  (∀ s : State, s.tx.phase ≠ .txIdle →
    (∀ (len : BitVec 13) (x : BitVec 2), exec (.txAccept len x) s = .next s) ∧
    (∀ (x : BitVec 13) (k : Ctl), exec (.sendControl x k) s = .next s))

/-- R152, R234, U5: the block never refuses a step and never faults, whatever the state. The two refusals there are answer what
is no instruction at all: the command code 3, which U5 says to refuse, and a call that names a control frame by other bytes. The
last clause says that code 3 is always refused when it is taken. -/
def Obligations.StepAlwaysAnswers : Prop :=
  (∀ s : State,
    (∃ t, step s = .next t) ∨
    (step s = .refused .controlCode3 ∧
      ∃ w ws ts, s.turns = .cmd :: ts ∧ s.txCmd = w :: ws ∧ w.extractLsb' 15 1 = 1#1 ∧ w.extractLsb' 0 2 = 3#2) ∨
    (step s = .refused .notAControlFrame ∧
      ∃ bs ts, s.turns = .call (.frame bs) :: ts ∧ ∀ k, bs ≠ ctlBytes k)) ∧
  (∀ (s : State) (ts : List Turn) (w : BitVec 16) (ws : List (BitVec 16)), s.turns = .cmd :: ts → s.txCmd = w :: ws →
    s.tx.phase = .txIdle → w.extractLsb' 15 1 = 1#1 → w.extractLsb' 0 2 = 3#2 → step s = .refused .controlCode3)

/-! ### The decoder, row by row -/

/-- R141. -/
def Obligations.RxIdleSofOpensAFrame : Prop :=
  ∀ s : State, s.rxOut = none → s.rx.mode = .idle →
    exec .rxIdleSof s = .next { s with rx := ⟨.framing, false, 0x00#8, []⟩, rxDiag := none }

/-- R143: "in `Idle`, any byte other than `0x00` is consumed and ignored; no register changes". -/
def Obligations.RxIdleBytesAreIgnored : Prop :=
  ∀ (s : State) (i : Instr), s.rxOut = none → s.rx.mode = .idle →
    (i ∈ [Instr.rxIdleEsc, .rxIdleX00, .rxIdleXaa, .rxIdleXff, .rxIdleEof] ∨ ∃ d, i = .rxIdleDat d) →
    exec i s = .next { s with rxDiag := none }

/-- R142, both its rows: the frame restarts, and the label says Restart exactly when something was collected or an escape was
pending; with an escape pending under `ESC_THEN_SOF = abort` R146 instead. -/
def Obligations.RxSofRestartsTheFrame : Prop :=
  ∀ s : State, s.rxOut = none → s.rx.mode = .framing →
    (s.rx.esc = false → exec .rxFramingSof s = .next { s with
      rx := ⟨.framing, false, 0x00#8, []⟩
      rxDiag := if s.rx.acc = [] then none else some .restart }) ∧
    (s.rx.esc = true → s.cfg.escThenSof = .restart → exec .rxFramingEscSof s = .next { s with
      rx := ⟨.framing, false, 0x00#8, []⟩
      rxDiag := some .restart }) ∧
    (s.rx.esc = true → s.cfg.escThenSof = .abort → exec .rxFramingEscSof s = .next { s with
      rx := ⟨.idle, false, 0x00#8, []⟩
      rxDiag := some .malformedEscape })

/-- R144, both its rows: the flag is set, the byte is neither stored nor folded; under `ESC_THEN_ESC = abort` R146 instead. -/
def Obligations.RxEscapeMarkerSetsTheFlag : Prop :=
  ∀ s : State, s.rxOut = none → s.rx.mode = .framing →
    (s.rx.esc = false → exec .rxFramingEsc s = .next { s with rx := { s.rx with esc := true }, rxDiag := none }) ∧
    (s.rx.esc = true → s.cfg.escThenEsc = .stayPending →
      exec .rxFramingEscEsc s = .next { s with rx := { s.rx with esc := true }, rxDiag := none }) ∧
    (s.rx.esc = true → s.cfg.escThenEsc = .abort → exec .rxFramingEscEsc s = .next { s with
      rx := ⟨.idle, false, 0x00#8, []⟩
      rxDiag := some .malformedEscape })

/-- R145: the CRC is folded over the original symbol, not over the code; with the accumulator full R150 instead. -/
def Obligations.RxCodeIsUnstuffed : Prop :=
  ∀ (s : State) (i : Instr) (v : Byte), s.rxOut = none → s.rx.mode = .framing → s.rx.esc = true →
    (i, v) ∈ [(Instr.rxFramingEscX00, 0x00#8), (.rxFramingEscXaa, 0xaa#8), (.rxFramingEscXff, 0xff#8)] →
    (s.cfg.accCap ≠ some s.rx.acc.length → exec i s = .next { s with
      rx := ⟨.framing, false, crcUpdate s.rx.crc v, s.rx.acc ++ [v]⟩
      rxDiag := none }) ∧
    (s.cfg.accCap = some s.rx.acc.length → exec i s = .next { s with
      rx := ⟨.idle, false, 0x00#8, []⟩
      rxDiag := some .overflow })

/-- R146, with the two cells that the parameters send to it (D5, D6): the decoder goes to Idle, nothing is delivered. -/
def Obligations.RxMalformedEscapeAborts : Prop :=
  ∀ (s : State) (i : Instr), s.rxOut = none → s.rx.mode = .framing → s.rx.esc = true →
    (i = .rxFramingEscEof ∨ (∃ d, i = .rxFramingEscDat d) ∨
      (i = .rxFramingEscSof ∧ s.cfg.escThenSof = .abort) ∨ (i = .rxFramingEscEsc ∧ s.cfg.escThenEsc = .abort)) →
    exec i s = .next { s with rx := ⟨.idle, false, 0x00#8, []⟩, rxDiag := some .malformedEscape }

/-- R147: the payload is "all but the last byte", delivered whole, and the decoder ends in Idle. -/
def Obligations.RxValidFrameIsDelivered : Prop :=
  ∀ s : State, s.rxOut = none → s.rx.mode = .framing → s.rx.esc = false → 1 < s.rx.acc.length → s.rx.crc = 0x53#8 →
    exec .rxFramingEofValid s = .next { s with
      rx := ⟨.idle, false, 0x00#8, []⟩
      rxOut := some (s.rx.acc.take (s.rx.acc.length - 1))
      delivered := s.delivered ++ [s.rx.acc.take (s.rx.acc.length - 1)]
      rxDiag := none }

/-- R148: "The length test comes first". -/
def Obligations.RxInvalidFrameIsDropped : Prop :=
  ∀ s : State, s.rxOut = none → s.rx.mode = .framing → s.rx.esc = false → (s.rx.acc.length ≤ 1 ∨ s.rx.crc ≠ 0x53#8) →
    exec .rxFramingEofInvalid s = .next { s with
      rx := ⟨.idle, false, 0x00#8, []⟩
      rxDiag := some (if s.rx.acc.length ≤ 1 then .tooShort else .crcMismatch) }

/-- R149, its four rows: folded and appended, the code values as plain data. -/
def Obligations.RxDataIsFoldedAndAppended : Prop :=
  ∀ (s : State) (i : Instr) (v : Byte), s.rxOut = none → s.rx.mode = .framing → s.rx.esc = false →
    s.cfg.accCap ≠ some s.rx.acc.length →
    ((i, v) ∈ [(Instr.rxFramingX00, 0xab#8), (.rxFramingXaa, 0xac#8), (.rxFramingXff, 0xad#8)] ∨ i = .rxFramingDat v) →
    exec i s = .next { s with
      rx := ⟨.framing, false, crcUpdate s.rx.crc v, s.rx.acc ++ [v]⟩
      rxDiag := none }

/-- R150: every row that would append drops the frame when `rx.len = ACC_CAP`, with an escape pending and without. -/
def Obligations.RxOverflowDropsTheFrame : Prop :=
  ∀ (s : State) (i : Instr), s.rxOut = none → s.rx.mode = .framing → s.cfg.accCap = some s.rx.acc.length →
    ((s.rx.esc = false ∧ (i ∈ [Instr.rxFramingX00, .rxFramingXaa, .rxFramingXff] ∨ (∃ d, i = .rxFramingDat d) ∨
        ∃ d, i = .rxFramingOverflow d ∧ d ≠ 0x00#8 ∧ d ≠ 0xaa#8 ∧ d ≠ 0xff#8)) ∨
     (s.rx.esc = true ∧ i ∈ [Instr.rxFramingEscX00, .rxFramingEscXaa, .rxFramingEscXff,
        .rxFramingOverflow 0xab#8, .rxFramingOverflow 0xac#8, .rxFramingOverflow 0xad#8])) →
    exec i s = .next { s with rx := ⟨.idle, false, 0x00#8, []⟩, rxDiag := some .overflow }

/-- R28, R155: while a payload is on offer no wire byte is taken, by a step or by a row; the acknowledgement withdraws it and
changes no register. -/
def Obligations.HeldPayloadStopsTheDecoder : Prop :=
  ∀ (s : State) (p : List Byte), s.rxOut = some p →
    (∀ ts, s.turns = .rx :: ts → step s = .next { s with turns := ts }) ∧
    (∀ i, isRxByteRow i = true → exec i s = .next s) ∧
    (∀ ts, s.turns = .ack :: ts → step s = .next { s with turns := ts, rxOut := none })

/-- R140: one wire byte fires exactly one transition. The row the opcode table's cells select does what the rule's first-match
chain does; and whenever a decoder row answers at all, in any state, it answers what that chain gives for its byte there, so no
row ever has another effect than its byte. -/
def Obligations.RxRowsAreTheFirstMatch : Prop :=
  (∀ (s : State) (b : Byte), s.rxOut = none → exec (decodeRx s.rxView b) s = .next (rxStep b s)) ∧
  (∀ (s t : State) (i : Instr) (v : RxView) (b : Byte), s.rxOut = none → wellFormed i = true → encode i = .rxByte v b →
    exec i s = .next t → t = rxStep b s)

/-- R192: what a drop leaves. Restart leaves an open empty frame, every other cause the canonical idle state, and nothing else
changes: "Nothing is saved". -/
def Obligations.DropLeavesOnlyTheIdleState : Prop :=
  ∀ (s t : State) (i : Instr) (c : Drop), isRxByteRow i = true → s.rxOut = none → exec i s = .next t → t.rxDiag = some c →
    t = { s with
      rx := if c = .restart then ⟨.framing, false, 0x00#8, []⟩ else ⟨.idle, false, 0x00#8, []⟩
      rxDiag := some c }

/-! ### The encoder, step by step -/

/-- R116: `SendPayload` and `SendControl` in TxIdle; too long a payload gets the status and nothing else. (Elsewhere the command
waits: the statement on waiting.) -/
def Obligations.CommandsAreAcceptedInTxIdle : Prop :=
  ∀ s : State,
    (∀ (len : BitVec 13) (x : BitVec 2), s.tx.phase = .txIdle → len.toNat ≤ 4096 →
      exec (.txAccept len x) s = .next { s with
        tx := { s.tx with rem := len.toNat, crc := 0x00#8, esc2 := none, phase := .txSof }
        txCmdStatus := some .accepted }) ∧
    (∀ (len : BitVec 13) (x : BitVec 2), s.tx.phase = .txIdle → 4096 < len.toNat →
      exec (.txAccept len x) s = .next { s with txCmdStatus := some .payloadTooLarge }) ∧
    (∀ (x : BitVec 13) (k : Ctl), s.tx.phase = .txIdle →
      exec (.sendControl x k) s = .next { s with
        tx := { s.tx with ctl := k, idx := 0, phase := .txCtl }
        txCmdStatus := some .accepted })

/-- R191: PayloadTooLarge does nothing to the state; the encoder is ready for another command. (The turn is the model's, log 2.) -/
def Obligations.OversizedCommandLeavesTheEncoder : Prop :=
  ∀ (s : State) (ts : List Turn) (w : BitVec 16) (ws : List (BitVec 16)), s.turns = .cmd :: ts → s.txCmd = w :: ws →
    s.tx.phase = .txIdle → w.extractLsb' 15 1 = 0#1 → 4096 < (w.extractLsb' 2 13).toNat →
    step s = .next { s with turns := ts, txCmd := ws, txCmdStatus := some .payloadTooLarge } ∧
    { s with turns := ts, txCmd := ws, txCmdStatus := some .payloadTooLarge }.txCmdReady = true

/-- R117, in every phase an emit step is enabled in. -/
def Obligations.TxEsc2EmitsThePendingCode : Prop :=
  ∀ (s : State) (c : EscCode), s.tx.phase ≠ .txIdle → s.tx.esc2 = some c →
    exec .txEsc2 s = .next { s with
      tx := { s.tx with esc2 := none }
      txOut := s.txOut ++ [match c with | .x00 => 0xab#8 | .xaa => 0xac#8 | .xff => 0xad#8] }

/-- R118. -/
def Obligations.TxSofEmitsTheDelimiter : Prop :=
  ∀ s : State, s.tx.phase = .txSof → s.tx.esc2 = none →
    exec .txSof s = .next { s with
      tx := { s.tx with phase := if 0 < s.tx.rem then .txData else .txCrc }
      txOut := s.txOut ++ [0x00#8] }

/-- R119: one payload byte; the CRC is updated with the symbol, the count goes down, a reserved symbol leaves its code pending. -/
def Obligations.TxDataEmitsOneSymbol : Prop :=
  ∀ (s : State) (b : Byte), s.tx.phase = .txData → s.tx.esc2 = none →
    exec (.txData b) s = .next { s with
      tx := { s.tx with
        crc := crcUpdate s.tx.crc b
        rem := s.tx.rem - 1
        phase := if s.tx.rem - 1 = 0 then .txCrc else .txData
        esc2 := if b = 0x00#8 then some .x00 else if b = 0xaa#8 then some .xaa
                else if b = 0xff#8 then some .xff else none }
      txOut := s.txOut ++ [if b = 0x00#8 ∨ b = 0xaa#8 ∨ b = 0xff#8 then 0xaa#8 else b] }

/-- R120: the CRC symbol is the register XOR 0xff, stuffed; it is reserved exactly when the register is 0xff, 0x55 or 0x00. -/
def Obligations.TxCrcEmitsTheChecksum : Prop :=
  ∀ s : State, s.tx.phase = .txCrc → s.tx.esc2 = none →
    exec .txCrc s = .next { s with
      tx := { s.tx with
        phase := .txEof
        esc2 := if s.tx.crc = 0xff#8 then some .x00 else if s.tx.crc = 0x55#8 then some .xaa
                else if s.tx.crc = 0x00#8 then some .xff else none }
      txOut := s.txOut ++
        [if s.tx.crc = 0xff#8 ∨ s.tx.crc = 0x55#8 ∨ s.tx.crc = 0x00#8 then 0xaa#8 else s.tx.crc ^^^ 0xff#8] }

/-- R121. -/
def Obligations.TxEofEmitsTheDelimiter : Prop :=
  ∀ s : State, s.tx.phase = .txEof → s.tx.esc2 = none →
    exec .txEof s = .next { s with tx := { s.tx with phase := .txIdle }, txOut := s.txOut ++ [0xff#8] }

/-- R177: byte `tx.idx` of row `tx.ctl`; `tx.crc`, `tx.rem` and `tx.esc2` stay. -/
def Obligations.TxCtlEmitsTheConstant : Prop :=
  ∀ s : State, s.tx.phase = .txCtl → s.tx.esc2 = none →
    ∃ b : Byte,
      (match s.tx.ctl with
        | .base  => [0x00#8, 0xaa#8, 0xae#8, 0xfe#8, 0xff#8]
        | .radio => [0x00#8, 0xaa#8, 0xaf#8, 0xb7#8, 0xff#8]
        | .telem => [0x00#8, 0xaa#8, 0xba#8, 0x6e#8, 0xff#8] : List Byte)[s.tx.idx.val]? = some b ∧
      exec .txCtl s = .next { s with
        tx := { s.tx with
          phase := if s.tx.idx = 4 then .txIdle else .txCtl
          idx := if s.tx.idx = 4 then 0 else s.tx.idx + 1 }
        txOut := s.txOut ++ [b] }

/-! ### The functions -/

/-- R91: CRC.GEN returns 256 entries, entry `i` the low 8 bits of 8 untruncated iterations from `i`. -/
def Obligations.CrcGenReturnsTheGeneratedTable : Prop :=
  ∀ s : State, ∃ table : List Byte, exec .crcGen s = .next { s with ret := .bytes table } ∧ table.length = 256 ∧
    ∀ i, i < 256 → table[i]? = some (BitVec.ofNat 8
      ((fun byte : Nat => if byte &&& 0x80 ≠ 0 then (byte <<< 1) ^^^ 0x49 else byte <<< 1)^[8] i &&& 0xff))

/-- R93: CRC.UPD returns `T[(b ^ c) & 0xff]`, an entry of the table CRC.GEN returns. -/
def Obligations.CrcUpdLooksUpTheTable : Prop :=
  ∀ (s : State) (c b : Byte), ∃ v : Byte, crcTable[(b ^^^ c).toNat]? = some v ∧
    exec (.crcUpd c b) s = .next { s with ret := .byte v }

/-- R94: CRC.RAW folds the update from register 0x00. -/
def Obligations.CrcRawFoldsFromZero : Prop :=
  (∀ (s : State) (bs : List Byte), exec (.crcRaw bs) s = .next { s with ret := .byte (crcRaw bs) }) ∧
  crcRaw [] = 0x00#8 ∧
  (∀ (bs : List Byte) (b : Byte), crcRaw (bs ++ [b]) = crcUpdate (crcRaw bs) b) ∧
  (∀ c : Byte, crcFrom c [] = c) ∧
  (∀ (c b : Byte) (bs : List Byte), crcFrom c (b :: bs) = crcFrom (crcUpdate c b) bs) ∧
  (∀ bs ds : List Byte, crcRaw (bs ++ ds) = crcFrom (crcRaw bs) ds)

/-- R95: the final XOR, once, at the end. -/
def Obligations.CrcFinXorsOnce : Prop :=
  ∀ (s : State) (bs : List Byte), exec (.crcFin bs) s = .next { s with ret := .byte (crcRaw bs ^^^ 0xff#8) }

/-- R96: the residue of a payload and its checksum is 0x53, and only the right checksum has it. -/
def Obligations.CrcChkGivesTheResidue : Prop :=
  (∀ (s : State) (p : List Byte), exec (.crcChk p) s = .next { s with ret := .residue 0x53#8 true }) ∧
  (∀ p : List Byte, crcRaw (p ++ [computeCrc p]) = 0x53#8) ∧
  (∀ (a : List Byte) (b : Byte), crcRaw (a ++ [b]) = 0x53#8 ↔ b = computeCrc a)

/-- R64: each symbol class is stuffed as its row says. -/
def Obligations.StuffRowsEmitThePairs : Prop :=
  ∀ s : State,
    exec .txStuffS00 s = .next { s with ret := .bytes [0xaa#8, 0xab#8] } ∧
    exec .txStuffSaa s = .next { s with ret := .bytes [0xaa#8, 0xac#8] } ∧
    exec .txStuffSff s = .next { s with ret := .bytes [0xaa#8, 0xad#8] } ∧
    ∀ v : Byte, v ≠ 0x00#8 → v ≠ 0xaa#8 → v ≠ 0xff#8 →
      exec (.txStuffOther v) s = .next { s with ret := .bytes [v] }

/-- R110, R111, R114: `encode` refuses more than 4096 bytes and otherwise returns the delimited, stuffed, checksummed frame. -/
def Obligations.EncodeReturnsTheFrame : Prop :=
  ∀ (s : State) (p : List Byte),
    (4096 < p.length → exec (.encodeFrame p) s = .next { s with ret := .payloadTooLarge }) ∧
    (p.length ≤ 4096 → exec (.encodeFrame p) s = .next { s with
      ret := .bytes ([0x00#8] ++ (p ++ [computeCrc p]).flatMap
        (fun v => if v = 0x00#8 then [0xaa#8, 0xab#8] else if v = 0xaa#8 then [0xaa#8, 0xac#8]
                  else if v = 0xff#8 then [0xaa#8, 0xad#8] else [v]) ++ [0xff#8]) })

/-- R171: the three constant frames, bit-exact. -/
def Obligations.ControlRowsReturnTheConstants : Prop :=
  ∀ s : State,
    exec .ctlBase s = .next { s with ret := .bytes [0x00#8, 0xaa#8, 0xae#8, 0xfe#8, 0xff#8] } ∧
    exec .ctlRadio s = .next { s with ret := .bytes [0x00#8, 0xaa#8, 0xaf#8, 0xb7#8, 0xff#8] } ∧
    exec .ctlTelem s = .next { s with ret := .bytes [0x00#8, 0xaa#8, 0xba#8, 0x6e#8, 0xff#8] }

/-- R100, R115: a function row is a function of its operands only; it writes nothing but what it returns. -/
def Obligations.FunctionRowsAreFunctionsOfTheirOperands : Prop :=
  ∀ i : Instr, isFunctionRow i = true → ∃ r : Ret, ∀ s : State, exec i s = .next { s with ret := r }

/-! ### The CRC unit -/

/-- R92: the 256 entries the rule lists. -/
def Obligations.CrcTableHasTheListedEntries : Prop :=
  crcTable =
    ([0x00, 0x49, 0x92, 0xdb, 0x6d, 0x24, 0xff, 0xb6, 0xda, 0x93, 0x48, 0x01, 0xb7, 0xfe, 0x25, 0x6c] : List Byte) ++
    [0xfd, 0xb4, 0x6f, 0x26, 0x90, 0xd9, 0x02, 0x4b, 0x27, 0x6e, 0xb5, 0xfc, 0x4a, 0x03, 0xd8, 0x91] ++
    [0xb3, 0xfa, 0x21, 0x68, 0xde, 0x97, 0x4c, 0x05, 0x69, 0x20, 0xfb, 0xb2, 0x04, 0x4d, 0x96, 0xdf] ++
    [0x4e, 0x07, 0xdc, 0x95, 0x23, 0x6a, 0xb1, 0xf8, 0x94, 0xdd, 0x06, 0x4f, 0xf9, 0xb0, 0x6b, 0x22] ++
    [0x2f, 0x66, 0xbd, 0xf4, 0x42, 0x0b, 0xd0, 0x99, 0xf5, 0xbc, 0x67, 0x2e, 0x98, 0xd1, 0x0a, 0x43] ++
    [0xd2, 0x9b, 0x40, 0x09, 0xbf, 0xf6, 0x2d, 0x64, 0x08, 0x41, 0x9a, 0xd3, 0x65, 0x2c, 0xf7, 0xbe] ++
    [0x9c, 0xd5, 0x0e, 0x47, 0xf1, 0xb8, 0x63, 0x2a, 0x46, 0x0f, 0xd4, 0x9d, 0x2b, 0x62, 0xb9, 0xf0] ++
    [0x61, 0x28, 0xf3, 0xba, 0x0c, 0x45, 0x9e, 0xd7, 0xbb, 0xf2, 0x29, 0x60, 0xd6, 0x9f, 0x44, 0x0d] ++
    [0x5e, 0x17, 0xcc, 0x85, 0x33, 0x7a, 0xa1, 0xe8, 0x84, 0xcd, 0x16, 0x5f, 0xe9, 0xa0, 0x7b, 0x32] ++
    [0xa3, 0xea, 0x31, 0x78, 0xce, 0x87, 0x5c, 0x15, 0x79, 0x30, 0xeb, 0xa2, 0x14, 0x5d, 0x86, 0xcf] ++
    [0xed, 0xa4, 0x7f, 0x36, 0x80, 0xc9, 0x12, 0x5b, 0x37, 0x7e, 0xa5, 0xec, 0x5a, 0x13, 0xc8, 0x81] ++
    [0x10, 0x59, 0x82, 0xcb, 0x7d, 0x34, 0xef, 0xa6, 0xca, 0x83, 0x58, 0x11, 0xa7, 0xee, 0x35, 0x7c] ++
    [0x71, 0x38, 0xe3, 0xaa, 0x1c, 0x55, 0x8e, 0xc7, 0xab, 0xe2, 0x39, 0x70, 0xc6, 0x8f, 0x54, 0x1d] ++
    [0x8c, 0xc5, 0x1e, 0x57, 0xe1, 0xa8, 0x73, 0x3a, 0x56, 0x1f, 0xc4, 0x8d, 0x3b, 0x72, 0xa9, 0xe0] ++
    [0xc2, 0x8b, 0x50, 0x19, 0xaf, 0xe6, 0x3d, 0x74, 0x18, 0x51, 0x8a, 0xc3, 0x75, 0x3c, 0xe7, 0xae] ++
    [0x3f, 0x76, 0xad, 0xe4, 0x52, 0x1b, 0xc0, 0x89, 0xe5, 0xac, 0x77, 0x3e, 0x88, 0xc1, 0x1a, 0x53]

/-- R99 (a), (b): the table is linear over XOR and a bijection on bytes. -/
def Obligations.CrcTableIsLinearAndBijective : Prop :=
  (∀ a b : Byte, tableEntry (a ^^^ b) = tableEntry a ^^^ tableEntry b) ∧
  (∀ a b : Byte, tableEntry a = tableEntry b → a = b) ∧
  (∀ v : Byte, ∃ a : Byte, tableEntry a = v)

/-- R97, R98: the shift register and the XOR network are the update. -/
def Obligations.CrcRealisationsAgree : Prop :=
  (∀ c b : Byte, crcBits c b = crcUpdate c b) ∧
  (∀ (c b : Byte) (k : Nat), k < 8 → (crcUpdate c b).getLsbD k = crcParallelBit (c ^^^ b) k)

/-- R102: a change confined to one symbol is always seen by the register, so a passing sequence no longer passes. R101: leading
zero symbols are never seen. -/
def Obligations.CrcSeesOneWrongSymbolButNoLeadingZeros : Prop :=
  (∀ (pre post : List Byte) (a b : Byte), a ≠ b →
    crcRaw (pre ++ a :: post) ≠ crcRaw (pre ++ b :: post) ∧
    (crcRaw (pre ++ a :: post) = 0x53#8 → crcRaw (pre ++ b :: post) ≠ 0x53#8)) ∧
  (∀ (n : Nat) (bs : List Byte), crcRaw (List.replicate n 0x00#8 ++ bs) = crcRaw bs)


/-! ### Frames -/

/-- R69: a body holds neither delimiter, and in it ESC is always followed by a code. -/
def Obligations.BodyHoldsNoDelimiter : Prop :=
  ∀ p body : List Byte, frameBytes p = [0x00#8] ++ body ++ [0xff#8] →
    0x00#8 ∉ body ∧ 0xff#8 ∉ body ∧
    ∀ pre post, body = pre ++ 0xaa#8 :: post → ∃ c post', post = c :: post' ∧ c ∈ [0xab#8, 0xac#8, 0xad#8]

/-- R68, R123: the length of a frame, and its bounds. -/
def Obligations.FrameLengthCountsReservedSymbols : Prop :=
  ∀ p : List Byte,
    (frameBytes p).length =
      p.length + p.countP isReservedValue + 3 + (if isReservedValue (computeCrc p) then 1 else 0) ∧
    p.length + 3 ≤ (frameBytes p).length ∧ (frameBytes p).length ≤ 2 * p.length + 4

/-- R173: each control frame is the unstuffed pair with its checksum and delimiters. R174: no control frame stands anywhere in
what `encode` returns. -/
def Obligations.ControlFramesAreUnstuffedAndNeverEncoded : Prop :=
  (∀ k : Ctl, ∃ command ∈ [0xae#8, 0xaf#8, 0xba#8],
    ctlBytes k = [0x00#8] ++ [0xaa#8, command] ++ [computeCrc [0xaa#8, command]] ++ [0xff#8]) ∧
  (∀ (p pre post : List Byte) (k : Ctl), frameBytes p ≠ pre ++ ctlBytes k ++ post)


/-! ### Streams -/

/-- R122: accepting `SendPayload(len(p))` and running emit steps puts exactly `encode(p)` on the wire, in as many steps as it has
bytes, and leaves the registers as the rule says. -/
def Obligations.StreamedFrameIsEncode : Prop :=
  ∀ (s : State) (p rest : List Byte) (w : BitVec 16) (ws : List (BitVec 16)) (ts : List Turn),
    s.tx.phase = .txIdle → p.length ≤ 4096 → s.txPl = p ++ rest → s.txCmd = w :: ws →
    w.extractLsb' 15 1 = 0#1 → (w.extractLsb' 2 13).toNat = p.length →
    s.turns = .cmd :: (List.replicate (frameBytes p).length .tx ++ ts) →
    runSteps (1 + (frameBytes p).length) s = .next { s with
      tx := { s.tx with phase := .txIdle, esc2 := none, rem := 0, crc := crcRaw p }
      txOut := s.txOut ++ frameBytes p
      txPl := rest
      txCmd := ws
      txCmdStatus := some .accepted
      turns := ts }

/-- R172: `SendControl(k)` puts the five bytes of its row on the wire, contiguous, and nothing else; `tx.crc` and `tx.rem` stay. -/
def Obligations.ControlFrameIsEmittedWhole : Prop :=
  ∀ (s : State) (k : Ctl) (w : BitVec 16) (ws : List (BitVec 16)) (ts : List Turn),
    s.tx.phase = .txIdle → s.tx.esc2 = none → s.txCmd = w :: ws →
    w.extractLsb' 15 1 = 1#1 → w.extractLsb' 0 2 = k.code →
    s.turns = .cmd :: (List.replicate 5 .tx ++ ts) →
    runSteps 6 s = .next { s with
      tx := { s.tx with ctl := k, idx := 0 }
      txOut := s.txOut ++ ctlBytes k
      txCmd := ws
      txCmdStatus := some .accepted
      turns := ts }

/-- R151: steps over a stream, with a consumer that acknowledges at once, are the decoder's left fold. -/
def Obligations.StepsOverAStreamAreTheFold : Prop :=
  ∀ (s : State) (bs rest : List Byte) (ts : List Turn), s.rxOut = none → s.rxIn = bs ++ rest →
    s.turns = listenTurns bs.length ++ ts →
    runSteps (2 * bs.length) s = .next { rxFeed bs s with rxIn := rest, turns := ts }

/-- R153: `decode(encode(p)) = [p]` for 1 to 4096 bytes, from any state in Idle, and under `ESC_THEN_SOF = restart` from any state
at all. -/
def Obligations.EncodedPayloadIsDelivered : Prop :=
  ∀ (s : State) (p : List Byte), s.cfg.wf = true → s.rxOut = none → 1 ≤ p.length → p.length ≤ 4096 →
    (s.rx.mode = .idle ∨ s.cfg.escThenSof = .restart) →
    (rxFeed (frameBytes p) s).delivered = s.delivered ++ [p] ∧
    (rxFeed (frameBytes p) s).rx = ⟨.idle, false, 0x00#8, []⟩

/-- R154: after any garbage the next well-formed frame is delivered, last; and under `abort` the counter-example of the rule. -/
def Obligations.GarbageDoesNotCorruptTheNextFrame : Prop :=
  (∀ (c : Config) (g p : List Byte), c.wf = true → c.escThenSof = .restart → 1 ≤ p.length → p.length ≤ 4096 →
    (decodeStream c (g ++ frameBytes p)).getLast? = some p) ∧
  (∀ (c : Config) (p : List Byte), c.wf = true → c.escThenSof = .abort →
    decodeStream c ([0x00#8, 0xaa#8] ++ frameBytes p) = [])

/-- R156: the decoder has no length limit of its own. -/
def Obligations.ReceiverHasNoLengthLimit : Prop :=
  ∀ (c : Config) (p : List Byte), p ≠ [] → (∀ n, c.accCap = some n → p.length + 1 ≤ n) →
    decodeStream c (frameBytes p) = [p]

/-- R124, R230, C3: the empty payload's frame `00 aa ad ff` is dropped as too short. -/
def Obligations.EmptyPayloadIsDropped : Prop :=
  frameBytes [] = [0x00#8, 0xaa#8, 0xad#8, 0xff#8] ∧
  ∀ s : State, s.cfg.wf = true → s.rxOut = none → (s.rx.mode = .idle ∨ s.cfg.escThenSof = .restart) →
    (rxFeed (frameBytes []) s).delivered = s.delivered ∧
    (rxFeed (frameBytes []) s).rxDiag = some .tooShort

/-- R159: a control frame is never delivered, and the decoder ends in Idle. -/
def Obligations.ControlFramesAreNeverDelivered : Prop :=
  ∀ (s : State) (k : Ctl), s.rxOut = none → (s.rx.mode = .idle ∨ s.cfg.escThenSof = .restart) →
    (rxFeed (ctlBytes k) s).delivered = s.delivered ∧
    (rxFeed (ctlBytes k) s).rx = ⟨.idle, false, 0x00#8, []⟩

/-- R158 (a): a wrong symbol byte that neither was nor becomes a reserved value is always caught. -/
def Obligations.WrongUnstuffedSymbolIsDropped : Prop :=
  ∀ (s : State) (p pre post : List Byte) (a b : Byte), s.cfg.wf = true → s.rxOut = none → p.length ≤ 4096 →
    (s.rx.mode = .idle ∨ s.cfg.escThenSof = .restart) →
    p ++ [computeCrc p] = pre ++ a :: post → isReservedValue a = false → isReservedValue b = false → a ≠ b →
    (rxFeed ([0x00#8] ++ (pre ++ b :: post).flatMap stuff ++ [0xff#8]) s).delivered = s.delivered

/-! ### Reset and invariants -/

/-- R35: the reset values of the registers and of the outputs. (`T` is a constant, R22.) -/
def Obligations.ResetHasTheListedValues : Prop :=
  State.reset.rx.mode = .idle ∧ State.reset.rx.esc = false ∧ State.reset.rx.crc = 0x00#8 ∧ State.reset.rx.len = 0 ∧
  State.reset.tx.phase = .txIdle ∧ State.reset.tx.crc = 0x00#8 ∧ State.reset.tx.rem = 0 ∧ State.reset.tx.esc2 = none ∧
  State.reset.tx.ctl.code = 0#2 ∧ State.reset.tx.idx = 0 ∧
  State.reset.rxOut = none ∧ State.reset.rxDiag = none

/-- R220, R221, R222: `rst` gives the reset values from any state; a held payload is withdrawn, no EOF is sent. That the
environment's queues and the histories stay is the model's choice (log 20). -/
def Obligations.ResetFromAnyState : Prop :=
  ∀ (s : State) (ts : List Turn), s.turns = .rst :: ts →
    step s = .next { s with
      rx := State.reset.rx
      tx := State.reset.tx
      rxOut := none
      rxDiag := none
      txCmdStatus := none
      turns := ts }

/-- The invariant holds after reset, with any legal parameters. -/
def Obligations.InvariantHoldsAtReset : Prop :=
  Inv State.reset ∧ ∀ c : Config, c.wf = true → Inv (State.resetWith c)

/-- R13, R14, R16, R19, R20, R21, R28: every step keeps the invariant, from every state that meets it. -/
def Obligations.StepKeepsTheInvariant : Prop :=
  ∀ s t : State, Inv s → step s = .next t → Inv t

/-- R4, R24, R34: the defaults, and nothing is programmable: no step and no instruction changes a parameter. -/
def Obligations.ParametersNeverChange : Prop :=
  State.reset.cfg = ⟨none, .restart, .stayPending⟩ ∧
  (∀ s t : State, step s = .next t → t.cfg = s.cfg) ∧
  (∀ (i : Instr) (s t : State), exec i s = .next t → t.cfg = s.cfg)

/-! ### Rules of the whole machine -/

/-- R50, R15, R100: the units share no register. A step of one side changes nothing of the other, and does the same whatever
the other side's registers hold. -/
def Obligations.DecoderAndEncoderAreIndependent : Prop :=
  (∀ (s t : State) (u : Turn) (ts : List Turn), s.turns = u :: ts → isTxTurn u = true → step s = .next t →
    t.rx = s.rx ∧ t.rxIn = s.rxIn ∧ t.rxOut = s.rxOut ∧ t.rxDiag = s.rxDiag ∧ t.delivered = s.delivered) ∧
  (∀ (s t : State) (u : Turn) (ts : List Turn), s.turns = u :: ts → isRxTurn u = true → step s = .next t →
    t.tx = s.tx ∧ t.txCmd = s.txCmd ∧ t.txCmdStatus = s.txCmdStatus ∧ t.txPl = s.txPl ∧ t.txOut = s.txOut) ∧
  (∀ (s : State) (u : Turn) (ts : List Turn) (r : Rx), s.turns = u :: ts → isTxTurn u = true →
    step { s with rx := r } = mapNext (fun t => { t with rx := r }) (step s)) ∧
  (∀ (s : State) (u : Turn) (ts : List Turn) (x : Tx), s.turns = u :: ts → isRxTurn u = true →
    step { s with tx := x } = mapNext (fun t => { t with tx := x }) (step s))

/-- R155, R188: nothing reaches the consumer but the whole payload of a frame whose checksum is right. -/
def Obligations.OnlyCheckedPayloadsAreDelivered : Prop :=
  ∀ s t : State, Inv s → step s = .next t →
    t.delivered = s.delivered ∨
    ∃ p, p ≠ [] ∧ s.rx.mode = .framing ∧ s.rx.acc = p ++ [computeCrc p] ∧
      t.delivered = s.delivered ++ [p] ∧ t.rxOut = some p

/-- R32: nothing reads the diagnostic output. -/
def Obligations.DiagnosticIsNeverRead : Prop :=
  ∀ (s : State) (d : Option Drop),
    mapNext (fun t => { t with rxDiag := none }) (step { s with rxDiag := d }) =
    mapNext (fun t => { t with rxDiag := none }) (step s)

/-- R6, R44, R47: a step puts at most one byte on the wire and takes none back, and no command is taken while a frame is open. -/
def Obligations.WireGrowsByAtMostOneByte : Prop :=
  ∀ s t : State, step s = .next t →
    (t.txOut = s.txOut ∨ ∃ b, t.txOut = s.txOut ++ [b]) ∧
    (s.tx.phase ≠ .txIdle → t.txCmd = s.txCmd)
end

