-- ==== Sys2Proof/Laws/Crc.lean ====
section
/-! SUPPORT. The CRC unit's small laws: the fold, and the two table entries the rules lean on. -/

namespace Sys2Proof.Machine

@[simp] theorem tableEntry_zero : tableEntry 0x00#8 = 0x00#8 := by decide

@[simp] theorem tableEntry_ff : tableEntry 0xff#8 = 0x53#8 := by decide

@[simp] theorem crcFrom_nil (c : Byte) : crcFrom c [] = c := rfl

@[simp] theorem crcFrom_cons (c b : Byte) (s : List Byte) : crcFrom c (b :: s) = crcFrom (crcUpdate c b) s := rfl

theorem crcFrom_append (c : Byte) (s t : List Byte) : crcFrom c (s ++ t) = crcFrom (crcFrom c s) t :=
  List.foldl_append

@[simp] theorem crcRaw_nil : crcRaw [] = 0x00#8 := rfl

@[simp] theorem crcRaw_concat (s : List Byte) (b : Byte) : crcRaw (s ++ [b]) = crcUpdate (crcRaw s) b := by
  simp [crcRaw, crcFrom_append]

end Sys2Proof.Machine
end

