-- ==== Sys2Proof/Laws/State.lean ====
section
/-! SUPPORT. One lemma per field for each of the shared updates of State, and for the registers' own updates: no later proof
unfolds a record update. -/

namespace Sys2Proof.Machine

/-! ### rxNext -/

@[simp] theorem State.rxNext_cfg (s : State) (r : Rx) : (s.rxNext r).cfg = s.cfg := rfl
@[simp] theorem State.rxNext_rx (s : State) (r : Rx) : (s.rxNext r).rx = r := rfl
@[simp] theorem State.rxNext_tx (s : State) (r : Rx) : (s.rxNext r).tx = s.tx := rfl
@[simp] theorem State.rxNext_rxIn (s : State) (r : Rx) : (s.rxNext r).rxIn = s.rxIn := rfl
@[simp] theorem State.rxNext_rxOut (s : State) (r : Rx) : (s.rxNext r).rxOut = s.rxOut := rfl
@[simp] theorem State.rxNext_rxDiag (s : State) (r : Rx) : (s.rxNext r).rxDiag = none := rfl
@[simp] theorem State.rxNext_delivered (s : State) (r : Rx) : (s.rxNext r).delivered = s.delivered := rfl
@[simp] theorem State.rxNext_txCmd (s : State) (r : Rx) : (s.rxNext r).txCmd = s.txCmd := rfl
@[simp] theorem State.rxNext_txCmdStatus (s : State) (r : Rx) : (s.rxNext r).txCmdStatus = s.txCmdStatus := rfl
@[simp] theorem State.rxNext_txPl (s : State) (r : Rx) : (s.rxNext r).txPl = s.txPl := rfl
@[simp] theorem State.rxNext_txOut (s : State) (r : Rx) : (s.rxNext r).txOut = s.txOut := rfl
@[simp] theorem State.rxNext_ret (s : State) (r : Rx) : (s.rxNext r).ret = s.ret := rfl
@[simp] theorem State.rxNext_turns (s : State) (r : Rx) : (s.rxNext r).turns = s.turns := rfl

/-! ### deliver -/

@[simp] theorem State.deliver_cfg (s : State) : (s.deliver).cfg = s.cfg := rfl
@[simp] theorem State.deliver_rx (s : State) : (s.deliver).rx = Rx.canonicalIdle := rfl
@[simp] theorem State.deliver_tx (s : State) : (s.deliver).tx = s.tx := rfl
@[simp] theorem State.deliver_rxIn (s : State) : (s.deliver).rxIn = s.rxIn := rfl
@[simp] theorem State.deliver_rxOut (s : State) : (s.deliver).rxOut = some s.rx.acc.dropLast := rfl
@[simp] theorem State.deliver_rxDiag (s : State) : (s.deliver).rxDiag = none := rfl
@[simp] theorem State.deliver_delivered (s : State) : (s.deliver).delivered = s.delivered ++ [s.rx.acc.dropLast] := rfl
@[simp] theorem State.deliver_txCmd (s : State) : (s.deliver).txCmd = s.txCmd := rfl
@[simp] theorem State.deliver_txCmdStatus (s : State) : (s.deliver).txCmdStatus = s.txCmdStatus := rfl
@[simp] theorem State.deliver_txPl (s : State) : (s.deliver).txPl = s.txPl := rfl
@[simp] theorem State.deliver_txOut (s : State) : (s.deliver).txOut = s.txOut := rfl
@[simp] theorem State.deliver_ret (s : State) : (s.deliver).ret = s.ret := rfl
@[simp] theorem State.deliver_turns (s : State) : (s.deliver).turns = s.turns := rfl

/-! ### drop -/

@[simp] theorem State.drop_cfg (s : State) (c : Drop) : (s.drop c).cfg = s.cfg := rfl
@[simp] theorem State.drop_tx (s : State) (c : Drop) : (s.drop c).tx = s.tx := rfl
@[simp] theorem State.drop_rxIn (s : State) (c : Drop) : (s.drop c).rxIn = s.rxIn := rfl
@[simp] theorem State.drop_rxOut (s : State) (c : Drop) : (s.drop c).rxOut = s.rxOut := rfl
@[simp] theorem State.drop_rxDiag (s : State) (c : Drop) : (s.drop c).rxDiag = some c := rfl
@[simp] theorem State.drop_delivered (s : State) (c : Drop) : (s.drop c).delivered = s.delivered := rfl
@[simp] theorem State.drop_txCmd (s : State) (c : Drop) : (s.drop c).txCmd = s.txCmd := rfl
@[simp] theorem State.drop_txCmdStatus (s : State) (c : Drop) : (s.drop c).txCmdStatus = s.txCmdStatus := rfl
@[simp] theorem State.drop_txPl (s : State) (c : Drop) : (s.drop c).txPl = s.txPl := rfl
@[simp] theorem State.drop_txOut (s : State) (c : Drop) : (s.drop c).txOut = s.txOut := rfl
@[simp] theorem State.drop_ret (s : State) (c : Drop) : (s.drop c).ret = s.ret := rfl
@[simp] theorem State.drop_turns (s : State) (c : Drop) : (s.drop c).turns = s.turns := rfl

/-! ### acknowledge -/

@[simp] theorem State.acknowledge_cfg (s : State) : (s.acknowledge).cfg = s.cfg := rfl
@[simp] theorem State.acknowledge_rx (s : State) : (s.acknowledge).rx = s.rx := rfl
@[simp] theorem State.acknowledge_tx (s : State) : (s.acknowledge).tx = s.tx := rfl
@[simp] theorem State.acknowledge_rxIn (s : State) : (s.acknowledge).rxIn = s.rxIn := rfl
@[simp] theorem State.acknowledge_rxOut (s : State) : (s.acknowledge).rxOut = none := rfl
@[simp] theorem State.acknowledge_rxDiag (s : State) : (s.acknowledge).rxDiag = s.rxDiag := rfl
@[simp] theorem State.acknowledge_delivered (s : State) : (s.acknowledge).delivered = s.delivered := rfl
@[simp] theorem State.acknowledge_txCmd (s : State) : (s.acknowledge).txCmd = s.txCmd := rfl
@[simp] theorem State.acknowledge_txCmdStatus (s : State) : (s.acknowledge).txCmdStatus = s.txCmdStatus := rfl
@[simp] theorem State.acknowledge_txPl (s : State) : (s.acknowledge).txPl = s.txPl := rfl
@[simp] theorem State.acknowledge_txOut (s : State) : (s.acknowledge).txOut = s.txOut := rfl
@[simp] theorem State.acknowledge_ret (s : State) : (s.acknowledge).ret = s.ret := rfl
@[simp] theorem State.acknowledge_turns (s : State) : (s.acknowledge).turns = s.turns := rfl

/-! ### emit -/

@[simp] theorem State.emit_cfg (s : State) (v : Byte) : (s.emit v).cfg = s.cfg := rfl
@[simp] theorem State.emit_rx (s : State) (v : Byte) : (s.emit v).rx = s.rx := rfl
@[simp] theorem State.emit_tx (s : State) (v : Byte) : (s.emit v).tx = s.tx := rfl
@[simp] theorem State.emit_rxIn (s : State) (v : Byte) : (s.emit v).rxIn = s.rxIn := rfl
@[simp] theorem State.emit_rxOut (s : State) (v : Byte) : (s.emit v).rxOut = s.rxOut := rfl
@[simp] theorem State.emit_rxDiag (s : State) (v : Byte) : (s.emit v).rxDiag = s.rxDiag := rfl
@[simp] theorem State.emit_delivered (s : State) (v : Byte) : (s.emit v).delivered = s.delivered := rfl
@[simp] theorem State.emit_txCmd (s : State) (v : Byte) : (s.emit v).txCmd = s.txCmd := rfl
@[simp] theorem State.emit_txCmdStatus (s : State) (v : Byte) : (s.emit v).txCmdStatus = s.txCmdStatus := rfl
@[simp] theorem State.emit_txPl (s : State) (v : Byte) : (s.emit v).txPl = s.txPl := rfl
@[simp] theorem State.emit_txOut (s : State) (v : Byte) : (s.emit v).txOut = s.txOut ++ [v] := rfl
@[simp] theorem State.emit_ret (s : State) (v : Byte) : (s.emit v).ret = s.ret := rfl
@[simp] theorem State.emit_turns (s : State) (v : Byte) : (s.emit v).turns = s.turns := rfl

/-! ### raiseTooLarge -/

@[simp] theorem State.raiseTooLarge_cfg (s : State) : (s.raiseTooLarge).cfg = s.cfg := rfl
@[simp] theorem State.raiseTooLarge_rx (s : State) : (s.raiseTooLarge).rx = s.rx := rfl
@[simp] theorem State.raiseTooLarge_tx (s : State) : (s.raiseTooLarge).tx = s.tx := rfl
@[simp] theorem State.raiseTooLarge_rxIn (s : State) : (s.raiseTooLarge).rxIn = s.rxIn := rfl
@[simp] theorem State.raiseTooLarge_rxOut (s : State) : (s.raiseTooLarge).rxOut = s.rxOut := rfl
@[simp] theorem State.raiseTooLarge_rxDiag (s : State) : (s.raiseTooLarge).rxDiag = s.rxDiag := rfl
@[simp] theorem State.raiseTooLarge_delivered (s : State) : (s.raiseTooLarge).delivered = s.delivered := rfl
@[simp] theorem State.raiseTooLarge_txCmd (s : State) : (s.raiseTooLarge).txCmd = s.txCmd := rfl
@[simp] theorem State.raiseTooLarge_txCmdStatus (s : State) : (s.raiseTooLarge).txCmdStatus = some .payloadTooLarge := rfl
@[simp] theorem State.raiseTooLarge_txPl (s : State) : (s.raiseTooLarge).txPl = s.txPl := rfl
@[simp] theorem State.raiseTooLarge_txOut (s : State) : (s.raiseTooLarge).txOut = s.txOut := rfl
@[simp] theorem State.raiseTooLarge_ret (s : State) : (s.raiseTooLarge).ret = s.ret := rfl
@[simp] theorem State.raiseTooLarge_turns (s : State) : (s.raiseTooLarge).turns = s.turns := rfl

/-! ### acceptCommand -/

@[simp] theorem State.acceptCommand_cfg (s : State) (t : Tx) : (s.acceptCommand t).cfg = s.cfg := rfl
@[simp] theorem State.acceptCommand_rx (s : State) (t : Tx) : (s.acceptCommand t).rx = s.rx := rfl
@[simp] theorem State.acceptCommand_tx (s : State) (t : Tx) : (s.acceptCommand t).tx = t := rfl
@[simp] theorem State.acceptCommand_rxIn (s : State) (t : Tx) : (s.acceptCommand t).rxIn = s.rxIn := rfl
@[simp] theorem State.acceptCommand_rxOut (s : State) (t : Tx) : (s.acceptCommand t).rxOut = s.rxOut := rfl
@[simp] theorem State.acceptCommand_rxDiag (s : State) (t : Tx) : (s.acceptCommand t).rxDiag = s.rxDiag := rfl
@[simp] theorem State.acceptCommand_delivered (s : State) (t : Tx) : (s.acceptCommand t).delivered = s.delivered := rfl
@[simp] theorem State.acceptCommand_txCmd (s : State) (t : Tx) : (s.acceptCommand t).txCmd = s.txCmd := rfl
@[simp] theorem State.acceptCommand_txCmdStatus (s : State) (t : Tx) : (s.acceptCommand t).txCmdStatus = some .accepted := rfl
@[simp] theorem State.acceptCommand_txPl (s : State) (t : Tx) : (s.acceptCommand t).txPl = s.txPl := rfl
@[simp] theorem State.acceptCommand_txOut (s : State) (t : Tx) : (s.acceptCommand t).txOut = s.txOut := rfl
@[simp] theorem State.acceptCommand_ret (s : State) (t : Tx) : (s.acceptCommand t).ret = s.ret := rfl
@[simp] theorem State.acceptCommand_turns (s : State) (t : Tx) : (s.acceptCommand t).turns = s.turns := rfl

/-! ### answer -/

@[simp] theorem State.answer_cfg (s : State) (r : Ret) : (s.answer r).cfg = s.cfg := rfl
@[simp] theorem State.answer_rx (s : State) (r : Ret) : (s.answer r).rx = s.rx := rfl
@[simp] theorem State.answer_tx (s : State) (r : Ret) : (s.answer r).tx = s.tx := rfl
@[simp] theorem State.answer_rxIn (s : State) (r : Ret) : (s.answer r).rxIn = s.rxIn := rfl
@[simp] theorem State.answer_rxOut (s : State) (r : Ret) : (s.answer r).rxOut = s.rxOut := rfl
@[simp] theorem State.answer_rxDiag (s : State) (r : Ret) : (s.answer r).rxDiag = s.rxDiag := rfl
@[simp] theorem State.answer_delivered (s : State) (r : Ret) : (s.answer r).delivered = s.delivered := rfl
@[simp] theorem State.answer_txCmd (s : State) (r : Ret) : (s.answer r).txCmd = s.txCmd := rfl
@[simp] theorem State.answer_txCmdStatus (s : State) (r : Ret) : (s.answer r).txCmdStatus = s.txCmdStatus := rfl
@[simp] theorem State.answer_txPl (s : State) (r : Ret) : (s.answer r).txPl = s.txPl := rfl
@[simp] theorem State.answer_txOut (s : State) (r : Ret) : (s.answer r).txOut = s.txOut := rfl
@[simp] theorem State.answer_ret (s : State) (r : Ret) : (s.answer r).ret = r := rfl
@[simp] theorem State.answer_turns (s : State) (r : Ret) : (s.answer r).turns = s.turns := rfl

/-! ### applyReset -/

@[simp] theorem State.applyReset_cfg (s : State) : (s.applyReset).cfg = s.cfg := rfl
@[simp] theorem State.applyReset_rx (s : State) : (s.applyReset).rx = Rx.reset := rfl
@[simp] theorem State.applyReset_tx (s : State) : (s.applyReset).tx = Tx.reset := rfl
@[simp] theorem State.applyReset_rxIn (s : State) : (s.applyReset).rxIn = s.rxIn := rfl
@[simp] theorem State.applyReset_rxOut (s : State) : (s.applyReset).rxOut = none := rfl
@[simp] theorem State.applyReset_rxDiag (s : State) : (s.applyReset).rxDiag = none := rfl
@[simp] theorem State.applyReset_delivered (s : State) : (s.applyReset).delivered = s.delivered := rfl
@[simp] theorem State.applyReset_txCmd (s : State) : (s.applyReset).txCmd = s.txCmd := rfl
@[simp] theorem State.applyReset_txCmdStatus (s : State) : (s.applyReset).txCmdStatus = none := rfl
@[simp] theorem State.applyReset_txPl (s : State) : (s.applyReset).txPl = s.txPl := rfl
@[simp] theorem State.applyReset_txOut (s : State) : (s.applyReset).txOut = s.txOut := rfl
@[simp] theorem State.applyReset_ret (s : State) : (s.applyReset).ret = s.ret := rfl
@[simp] theorem State.applyReset_turns (s : State) : (s.applyReset).turns = s.turns := rfl

/-! ### The registers -/

@[simp] theorem State.drop_restart_rx (s : State) : (s.drop .restart).rx = Rx.fresh := rfl
/-- Every cause but Restart leaves the canonical idle state (R192). -/
theorem State.drop_rx {c : Drop} (s : State) (h : c ≠ .restart) : (s.drop c).rx = Rx.canonicalIdle := by
  cases c <;> first | rfl | exact absurd rfl h
@[simp] theorem State.drop_malformed_rx (s : State) : (s.drop .malformedEscape).rx = Rx.canonicalIdle := rfl
@[simp] theorem State.drop_tooShort_rx (s : State) : (s.drop .tooShort).rx = Rx.canonicalIdle := rfl
@[simp] theorem State.drop_crcMismatch_rx (s : State) : (s.drop .crcMismatch).rx = Rx.canonicalIdle := rfl
@[simp] theorem State.drop_overflow_rx (s : State) : (s.drop .overflow).rx = Rx.canonicalIdle := rfl

@[simp] theorem Rx.append_mode (r : Rx) (v : Byte) : (r.append v).mode = r.mode := rfl
@[simp] theorem Rx.append_esc (r : Rx) (v : Byte) : (r.append v).esc = r.esc := rfl
@[simp] theorem Rx.append_crc (r : Rx) (v : Byte) : (r.append v).crc = crcUpdate r.crc v := rfl
@[simp] theorem Rx.append_acc (r : Rx) (v : Byte) : (r.append v).acc = r.acc ++ [v] := rfl
@[simp] theorem Rx.setEsc_mode (r : Rx) : r.setEsc.mode = r.mode := rfl
@[simp] theorem Rx.setEsc_esc (r : Rx) : r.setEsc.esc = true := rfl
@[simp] theorem Rx.setEsc_crc (r : Rx) : r.setEsc.crc = r.crc := rfl
@[simp] theorem Rx.setEsc_acc (r : Rx) : r.setEsc.acc = r.acc := rfl
@[simp] theorem Rx.clearEsc_mode (r : Rx) : r.clearEsc.mode = r.mode := rfl
@[simp] theorem Rx.clearEsc_esc (r : Rx) : r.clearEsc.esc = false := rfl
@[simp] theorem Rx.clearEsc_crc (r : Rx) : r.clearEsc.crc = r.crc := rfl
@[simp] theorem Rx.clearEsc_acc (r : Rx) : r.clearEsc.acc = r.acc := rfl
@[simp] theorem Rx.fresh_mode : Rx.fresh.mode = .framing := rfl
@[simp] theorem Rx.fresh_esc : Rx.fresh.esc = false := rfl
@[simp] theorem Rx.fresh_crc : Rx.fresh.crc = crcInit := rfl
@[simp] theorem Rx.fresh_acc : Rx.fresh.acc = [] := rfl
@[simp] theorem Rx.canonicalIdle_mode : Rx.canonicalIdle.mode = .idle := rfl
@[simp] theorem Rx.canonicalIdle_esc : Rx.canonicalIdle.esc = false := rfl
@[simp] theorem Rx.canonicalIdle_crc : Rx.canonicalIdle.crc = 0x00#8 := rfl
@[simp] theorem Rx.canonicalIdle_acc : Rx.canonicalIdle.acc = [] := rfl
@[simp] theorem Tx.setEsc2_phase (t : Tx) (c : Option EscCode) : (t.setEsc2 c).phase = t.phase := rfl
@[simp] theorem Tx.setEsc2_crc (t : Tx) (c : Option EscCode) : (t.setEsc2 c).crc = t.crc := rfl
@[simp] theorem Tx.setEsc2_rem (t : Tx) (c : Option EscCode) : (t.setEsc2 c).rem = t.rem := rfl
@[simp] theorem Tx.setEsc2_esc2 (t : Tx) (c : Option EscCode) : (t.setEsc2 c).esc2 = c := rfl
@[simp] theorem Tx.setEsc2_ctl (t : Tx) (c : Option EscCode) : (t.setEsc2 c).ctl = t.ctl := rfl
@[simp] theorem Tx.setEsc2_idx (t : Tx) (c : Option EscCode) : (t.setEsc2 c).idx = t.idx := rfl

end Sys2Proof.Machine
end

