-- ==== Sys2Proof/Laws/Memory.lean ====
section
/-! SUPPORT. The accumulator: what reading, appending and erasing give, and that every operation keeps `Memory.wf`. -/

namespace Sys2Proof.Machine

theorem accRead_append_same (acc : List Byte) (v : Byte) : accRead (acc ++ [v]) acc.length = some v := by
  simp [accRead]

theorem accRead_append_other (acc : List Byte) (v : Byte) (i : Nat) (h : i < acc.length) :
    accRead (acc ++ [v]) i = accRead acc i := by
  simp [accRead, List.getElem?_append_left h]

theorem accRead_beyond (acc : List Byte) (i : Nat) (h : acc.length ≤ i) : accRead acc i = none := by
  simp [accRead, h]

/-- The erase, `rx.len <- 0`. -/
@[simp] theorem Memory.wf_nil (cap : Option Nat) : Memory.wf cap [] = true := by
  cases cap <;> simp [Memory.wf]

/-- An append to an accumulator that is not full. -/
theorem Memory.wf_append {cap : Option Nat} {acc : List Byte} (v : Byte) (h : Memory.wf cap acc = true)
    (hfull : cap ≠ some acc.length) : Memory.wf cap (acc ++ [v]) = true := by
  cases cap with
  | none => rfl
  | some n =>
    simp only [Memory.wf, decide_eq_true_eq, List.length_append, List.length_singleton] at *
    have : n ≠ acc.length := fun e => hfull (by rw [e])
    omega

theorem accFull_iff (s : State) : s.accFull = true ↔ s.cfg.accCap = some s.rx.len := by
  simp [State.accFull]

theorem takeData_keeps_memory (s : State) (v : Byte) (h : Memory.wf s.cfg.accCap s.rx.acc = true) :
    Memory.wf s.cfg.accCap (s.takeData v).rx.acc = true := by
  unfold State.takeData
  split
  · simp
  · next hf => exact Memory.wf_append v h (fun e => hf ((accFull_iff s).2 e))

theorem takeEscaped_keeps_memory (s : State) (c : EscCode) (h : Memory.wf s.cfg.accCap s.rx.acc = true) :
    Memory.wf s.cfg.accCap (s.takeEscaped c).rx.acc = true := by
  unfold State.takeEscaped
  split
  · simp
  · next hf => exact Memory.wf_append c.symbol h (fun e => hf ((accFull_iff s).2 e))

theorem reset_memory_wf (c : Config) : Memory.wf c.accCap (State.resetWith c).rx.acc = true := Memory.wf_nil _

end Sys2Proof.Machine
end

