-- ==== Sys2Proof/Laws/Ops.lean ====
section
/-! SUPPORT. For each shared operation, once, everything it can do. -/

namespace Sys2Proof.Machine

/-- A decoder row answers next in two ways: it waits while a payload is held, or it fires where it is selected. -/
theorem rxRow_next {s after t : State} {selected : Bool} (h : s.rxRow selected after = .next t) :
    (s.rxInReady = false ∧ t = s) ∨ (s.rxInReady = true ∧ selected = true ∧ t = after) := by
  unfold State.rxRow at h
  split at h
  · next hr =>
    split at h
    · next hs => exact .inr ⟨hr, hs, by injection h with h; exact h.symm⟩
    · cases h
  · next hr => exact .inl ⟨by simpa using hr, by injection h with h; exact h.symm⟩

theorem rxRow_selected {s after : State} {selected : Bool} (hr : s.rxOut = none) (hs : selected = true) :
    s.rxRow selected after = .next after := by
  simp [State.rxRow, State.rxInReady, hr, hs]

theorem rxRow_held {s after : State} {selected : Bool} {p : List Byte} (hr : s.rxOut = some p) :
    s.rxRow selected after = .next s := by
  simp [State.rxRow, State.rxInReady, hr]

/-- An encoder step answers next only where phase and escape state select it. -/
theorem txRow_next {s after t : State} {p : Phase} (h : s.txRow p after = .next t) :
    s.tx.phase = p ∧ s.tx.esc2 = none ∧ t = after := by
  unfold State.txRow at h
  split at h
  · next hc => exact ⟨hc.1, hc.2, by injection h with h; exact h.symm⟩
  · cases h

theorem txRow_selected {s after : State} {p : Phase} (hp : s.tx.phase = p) (he : s.tx.esc2 = none) :
    s.txRow p after = .next after := by
  simp [State.txRow, hp, he]

/-- A restart opens a fresh frame; whether it is labelled a drop depends on what was collected. -/
theorem restartFrame_eq (s : State) :
    s.restartFrame = { s with rx := Rx.fresh, rxDiag := if 0 < s.rx.len ∨ s.rx.esc = true then some .restart else none } := by
  unfold State.restartFrame
  split <;> rfl

/-- A discard leaves the canonical idle state under one of two labels. -/
theorem discardFrame_eq (s : State) :
    s.discardFrame = { s with rx := Rx.canonicalIdle
                              rxDiag := some (if s.rx.len < minAcc then .tooShort else .crcMismatch) } := by
  unfold State.discardFrame
  split <;> rfl

theorem takeData_of_full {s : State} (v : Byte) (h : s.accFull = true) : s.takeData v = s.drop .overflow := by
  simp [State.takeData, h]

theorem takeData_of_room {s : State} (v : Byte) (h : s.accFull = false) : s.takeData v = s.rxNext (s.rx.append v) := by
  simp [State.takeData, h]

theorem takeEscaped_of_full {s : State} (c : EscCode) (h : s.accFull = true) : s.takeEscaped c = s.drop .overflow := by
  simp [State.takeEscaped, h]

theorem takeEscaped_of_room {s : State} (c : EscCode) (h : s.accFull = false) :
    s.takeEscaped c = s.rxNext (s.rx.append c.symbol).clearEsc := by
  simp [State.takeEscaped, h]

/-- Emitting a symbol puts one byte on the wire and leaves its code pending where it has one. -/
theorem emitSymbol_eq (s : State) (v : Byte) :
    s.emitSymbol v =
      { s with tx := { s.tx with esc2 := (escCodeOf v).or s.tx.esc2 }
               txOut := s.txOut ++ [if isReservedValue v then escByte else v] } := by
  unfold State.emitSymbol escCodeOf isReservedValue
  by_cases h0 : v = 0x00#8
  · subst h0; rfl
  by_cases ha : v = 0xaa#8
  · subst ha; rfl
  by_cases hf : v = 0xff#8
  · subst hf; rfl
  simp [h0, ha, hf, State.emit]

/-! ### The read port of rx_out -/

theorem rxOutLen_held {s : State} {p : List Byte} (h : s.rxOut = some p) : s.rxOutLen = some p.length := by
  simp [State.rxOutLen, h]

theorem rxOutLen_none {s : State} (h : s.rxOut = none) : s.rxOutLen = none := by
  simp [State.rxOutLen, h]

/-- R28: "`rx.len - 1` at the moment of delivery". -/
theorem rxOutLen_deliver (s : State) : s.deliver.rxOutLen = some (s.rx.len - 1) := by
  simp [State.deliver, State.rxOutLen]

/-- A byte can be read exactly at the indices below the length. -/
theorem rxOutData_isSome (s : State) (i : Nat) : (s.rxOutData i).isSome = true ↔ ∃ n, s.rxOutLen = some n ∧ i < n := by
  cases h : s.rxOut <;> simp [State.rxOutData, State.rxOutLen, h]

end Sys2Proof.Machine
end

