-- ==== Sys2Proof/Laws/Effects.lean ====
section
/-! SUPPORT. Said once: everything a decoder row, an encoder row and a function row can do when it answers a next state. -/

namespace Sys2Proof.Machine

/-- Everything a decoder row can do. -/
inductive RxEffect (s : State) : State → Prop where
  | held (h : s.rxOut ≠ none) : RxEffect s s
  | fresh (d : Option Drop) (h : s.rxOut = none) (hd : d = none ∨ d = some .restart) :
      RxEffect s { s with rx := Rx.fresh, rxDiag := d }
  | ignore (h : s.rxOut = none) (hm : s.rx.mode = .idle) : RxEffect s { s with rxDiag := none }
  | escape (h : s.rxOut = none) (hm : s.rx.mode = .framing) :
      RxEffect s { s with rx := s.rx.setEsc, rxDiag := none }
  | append (v : Byte) (h : s.rxOut = none) (hm : s.rx.mode = .framing) (hf : s.accFull = false) :
      RxEffect s { s with rx := (s.rx.append v).clearEsc, rxDiag := none }
  | deliver (h : s.rxOut = none) (hm : s.rx.mode = .framing) (hv : s.frameValid = true) : RxEffect s s.deliver
  | dropped (c : Drop) (h : s.rxOut = none) (hc : c ≠ .restart) : RxEffect s (s.drop c)

theorem RxEffect.restart {s : State} (h : s.rxOut = none) : RxEffect s s.restartFrame := by
  rw [restartFrame_eq]
  exact .fresh _ h (by split <;> simp)

theorem RxEffect.discard {s : State} (h : s.rxOut = none) : RxEffect s s.discardFrame := by
  unfold State.discardFrame
  split <;> exact .dropped _ h (by simp)

theorem RxEffect.data {s : State} (v : Byte) (h : s.rxOut = none) (hm : s.rx.mode = .framing) (he : s.rx.esc = false) :
    RxEffect s (s.takeData v) := by
  unfold State.takeData
  split
  · exact .dropped _ h (by simp)
  · next hf =>
    have : s.rxNext (s.rx.append v) = { s with rx := (s.rx.append v).clearEsc, rxDiag := none } := by
      simp [State.rxNext, Rx.append, Rx.clearEsc, he]
    rw [this]
    exact .append v h hm (by simpa using hf)

theorem RxEffect.escaped {s : State} (c : EscCode) (h : s.rxOut = none) (hm : s.rx.mode = .framing) :
    RxEffect s (s.takeEscaped c) := by
  unfold State.takeEscaped
  split
  · exact .dropped _ h (by simp)
  · next hf => exact .append c.symbol h hm (by simpa using hf)

theorem inFraming_iff (s : State) : s.inFraming = true ↔ s.rx.mode = .framing ∧ s.rx.esc = false := by
  simp [State.inFraming]

theorem inFramingEsc_iff (s : State) : s.inFramingEsc = true ↔ s.rx.mode = .framing ∧ s.rx.esc = true := by
  simp [State.inFramingEsc]

theorem inIdle_iff (s : State) : s.inIdle = true ↔ s.rx.mode = .idle := by
  simp [State.inIdle]

/-- From a row's own form to its effect: it waits, or it fires where selected. -/
theorem RxEffect.of_row {s after t : State} {selected : Bool} (h : s.rxRow selected after = .next t)
    (hs : s.rxOut = none → selected = true → RxEffect s after) : RxEffect s t := by
  rcases rxRow_next h with ⟨hr, rfl⟩ | ⟨hr, hsel, rfl⟩
  · exact .held (by intro e; simp [State.rxInReady, e] at hr)
  · exact hs (by simpa [State.rxInReady] using hr) hsel

/-- Everything a decoder row can do, for every row of the format. -/
theorem exec_rx_effect {i : Instr} {s t : State} (hi : isRxByteRow i = true) (h : exec i s = .next t) : RxEffect s t := by
  cases i <;> first | (simp [isRxByteRow, encode] at hi; done) | skip
  case rxIdleSof => exact .of_row h fun hr _ => .fresh none hr (.inl rfl)
  case rxIdleEsc => exact .of_row h fun hr hs => .ignore hr ((inIdle_iff s).1 hs)
  case rxIdleX00 => exact .of_row h fun hr hs => .ignore hr ((inIdle_iff s).1 hs)
  case rxIdleXaa => exact .of_row h fun hr hs => .ignore hr ((inIdle_iff s).1 hs)
  case rxIdleXff => exact .of_row h fun hr hs => .ignore hr ((inIdle_iff s).1 hs)
  case rxIdleEof => exact .of_row h fun hr hs => .ignore hr ((inIdle_iff s).1 hs)
  case rxIdleDat => exact .of_row h fun hr hs => .ignore hr ((inIdle_iff s).1 hs)
  case rxFramingSof => exact .of_row h fun hr _ => .restart hr
  case rxFramingEsc => exact .of_row h fun hr hs => .escape hr ((inFraming_iff s).1 hs).1
  case rxFramingX00 => exact .of_row h fun hr hs => .data _ hr ((inFraming_iff s).1 hs).1 ((inFraming_iff s).1 hs).2
  case rxFramingXaa => exact .of_row h fun hr hs => .data _ hr ((inFraming_iff s).1 hs).1 ((inFraming_iff s).1 hs).2
  case rxFramingXff => exact .of_row h fun hr hs => .data _ hr ((inFraming_iff s).1 hs).1 ((inFraming_iff s).1 hs).2
  case rxFramingDat => exact .of_row h fun hr hs => .data _ hr ((inFraming_iff s).1 hs).1 ((inFraming_iff s).1 hs).2
  case rxFramingEofValid =>
    refine .of_row h fun hr hs => ?_
    rw [Bool.and_eq_true, inFraming_iff] at hs
    exact .deliver hr hs.1.1 hs.2
  case rxFramingEofInvalid => exact .of_row h fun hr _ => .discard hr
  case rxFramingOverflow => exact .of_row h fun hr _ => .dropped _ hr (by simp)
  case rxFramingEscSof =>
    refine .of_row h fun hr _ => ?_
    cases s.cfg.escThenSof
    · exact .restart hr
    · exact .dropped _ hr (by simp)
  case rxFramingEscEsc =>
    refine .of_row h fun hr hs => ?_
    cases s.cfg.escThenEsc
    · exact .escape hr ((inFramingEsc_iff s).1 hs).1
    · exact .dropped _ hr (by simp)
  case rxFramingEscX00 => exact .of_row h fun hr hs => .escaped _ hr ((inFramingEsc_iff s).1 hs).1
  case rxFramingEscXaa => exact .of_row h fun hr hs => .escaped _ hr ((inFramingEsc_iff s).1 hs).1
  case rxFramingEscXff => exact .of_row h fun hr hs => .escaped _ hr ((inFramingEsc_iff s).1 hs).1
  case rxFramingEscEof => exact .of_row h fun hr _ => .dropped _ hr (by simp)
  case rxFramingEscDat => exact .of_row h fun hr _ => .dropped _ hr (by simp)

/-- Everything an encoder row can do. -/
inductive TxEffect (s : State) : State → Prop where
  | waits (hp : s.tx.phase ≠ .txIdle) : TxEffect s s
  | tooLarge (hp : s.tx.phase = .txIdle) : TxEffect s s.raiseTooLarge
  | payload (n : Nat) (hp : s.tx.phase = .txIdle) (hn : n ≤ maxPayload) :
      TxEffect s (s.acceptCommand { s.tx with rem := n, crc := crcInit, esc2 := none, phase := .txSof })
  | control (k : Ctl) (hp : s.tx.phase = .txIdle) :
      TxEffect s (s.acceptCommand { s.tx with ctl := k, idx := 0, phase := .txCtl })
  | code (c : EscCode) (hp : s.tx.phase ≠ .txIdle) (hc : s.tx.esc2 = some c) :
      TxEffect s { s with tx := { s.tx with esc2 := none }, txOut := s.txOut ++ [c.byte] }
  | sof (hp : s.tx.phase = .txSof) (he : s.tx.esc2 = none) :
      TxEffect s { s with tx := { s.tx with phase := if 0 < s.tx.rem then .txData else .txCrc }, txOut := s.txOut ++ [sofByte] }
  | data (b : Byte) (hp : s.tx.phase = .txData) (he : s.tx.esc2 = none) :
      TxEffect s { s with
        tx := { s.tx with crc := crcUpdate s.tx.crc b, rem := s.tx.rem - 1,
                          phase := if s.tx.rem - 1 = 0 then .txCrc else .txData, esc2 := escCodeOf b }
        txOut := s.txOut ++ [if isReservedValue b then escByte else b] }
  | crc (hp : s.tx.phase = .txCrc) (he : s.tx.esc2 = none) :
      TxEffect s { s with
        tx := { s.tx with phase := .txEof, esc2 := escCodeOf (s.tx.crc ^^^ crcXorOut) }
        txOut := s.txOut ++ [if isReservedValue (s.tx.crc ^^^ crcXorOut) then escByte else s.tx.crc ^^^ crcXorOut] }
  | eof (hp : s.tx.phase = .txEof) (he : s.tx.esc2 = none) :
      TxEffect s { s with tx := { s.tx with phase := .txIdle }, txOut := s.txOut ++ [eofByte] }
  | ctl (hp : s.tx.phase = .txCtl) (he : s.tx.esc2 = none) :
      TxEffect s { s with
        tx := if s.tx.idx = 4 then { s.tx with phase := .txIdle, idx := 0 } else { s.tx with idx := s.tx.idx + 1 }
        txOut := s.txOut ++ [ctlByte s.tx.ctl s.tx.idx] }

/-- Everything an encoder row can do, for every row of its two formats. -/
theorem exec_tx_effect {i : Instr} {s t : State} (hi : isTxRow i = true) (h : exec i s = .next t) : TxEffect s t := by
  cases i <;> first | (simp [isTxRow, encode] at hi; done) | skip
  case txAccept len x =>
    simp only [exec, execTxAccept, State.txCmdReady, beq_iff_eq] at h
    split at h
    · next hp =>
      split at h <;> injection h with h <;> subst h
      · exact .tooLarge hp
      · next hl => exact .payload _ hp (by omega)
    · next hp => injection h with h; subst h; exact .waits hp
  case sendControl x k =>
    simp only [exec, execSendControl, State.txCmdReady, beq_iff_eq] at h
    split at h
    · next hp => injection h with h; subst h; exact .control k hp
    · next hp => injection h with h; subst h; exact .waits hp
  case txEsc2 =>
    simp only [exec, execTxEsc2] at h
    split at h
    · next c hc =>
      split at h
      · cases h
      · next hp => injection h with h; subst h; exact .code c hp hc
    · cases h
  case txSof => obtain ⟨hp, he, rfl⟩ := txRow_next h; exact .sof hp he
  case txData b =>
    obtain ⟨hp, he, rfl⟩ := txRow_next h
    rw [emitSymbol_eq]
    simp only [he, Option.or_none]
    exact .data b hp he
  case txCrc =>
    obtain ⟨hp, he, rfl⟩ := txRow_next h
    rw [emitSymbol_eq]
    simp only [he, Option.or_none]
    exact .crc hp he
  case txEof => obtain ⟨hp, he, rfl⟩ := txRow_next h; exact .eof hp he
  case txCtl => obtain ⟨hp, he, rfl⟩ := txRow_next h; exact .ctl hp he

/-- A function row always answers, and only with its return value. -/
theorem exec_function_row {i : Instr} (s : State) (hi : isFunctionRow i = true) : ∃ r, exec i s = .next (s.answer r) := by
  cases i <;> first | exact ⟨_, rfl⟩ | simp [isFunctionRow, encode] at hi

/-- Every row is of one of the three kinds. -/
theorem row_kind (i : Instr) : isRxByteRow i = true ∨ isTxRow i = true ∨ isFunctionRow i = true := by
  cases i <;> simp [isRxByteRow, isTxRow, isFunctionRow, encode]

theorem decodeRx_kind (v : RxView) (b : Byte) : isRxByteRow (decodeRx v b) = true := by
  unfold decodeRx
  repeat' split
  all_goals rfl

theorem decodeCmd_kind {w : BitVec 16} {i : Instr} (h : decodeCmd w = .ok i) : isTxRow i = true := by
  unfold decodeCmd at h
  repeat' split at h
  all_goals first | (injection h with h; subst h; rfl) | cases h

theorem decodeTxStep_kind {v : TxView} {i : Instr} (h : decodeTxStep v = .ok i) : isTxRow i = true := by
  unfold decodeTxStep at h
  repeat' split at h
  all_goals first | (injection h with h; subst h; rfl) | cases h

theorem decodeSym_kind (v : Byte) : isFunctionRow (decodeSym v) = true := by
  unfold decodeSym
  split <;> rfl

theorem decodeCall_kind {f : FunCall} {i : Instr} (h : decodeCall f = .ok i) : isFunctionRow i = true := by
  cases f
  case stuff v => injection h with h; subst h; exact decodeSym_kind v
  case frame bs =>
    simp only [decodeCall, decodeCtlFrame] at h
    repeat' split at h
    all_goals first | (injection h with h; subst h; rfl) | cases h
  all_goals (injection h with h; subst h; rfl)

end Sys2Proof.Machine
end

