-- ==== Sys2Proof/Laws/PerInstr.lean ====
section
/-! SUPPORT. The per-instruction family RoundTrip: decoding the encoding of a well-formed instruction gives it back. -/

namespace Sys2Proof.Laws.RoundTrip

/-- What the family says of an instruction, as syntax. -/
def Statement (i : Instr) : Prop := wellFormed i = true → decode (encode i) = .ok i

theorem classOf_dat {d : Byte} (h : (!isFixedRxValue d) = true) : classOf d = .dat := by
  simp only [isFixedRxValue, Bool.not_eq_true', Bool.or_eq_false_iff, beq_eq_false_iff_ne] at h
  obtain ⟨⟨⟨⟨⟨h0, h1⟩, h2⟩, h3⟩, h4⟩, h5⟩ := h
  simp [classOf, h0, h1, h2, h3, h4, h5]

theorem escCodeOf_other {v : Byte} (h : (!isReservedValue v) = true) : escCodeOf v = none := by
  simp only [isReservedValue, Bool.not_eq_true', Bool.or_eq_false_iff, beq_eq_false_iff_ne] at h
  simp [escCodeOf, h.1.1, h.1.2, h.2]

/-- The bits of a command pattern, by field. -/
theorem cmdWord_getLsbD (k : BitVec 1) (l : BitVec 13) (c : BitVec 2) (i : Nat) :
    (cmdWord k l c).getLsbD i =
      if i < 2 then c.getLsbD i else if i - 2 < 13 then l.getLsbD (i - 2) else k.getLsbD (i - 2 - 13) := by
  have h : (cmdWord k l c).getLsbD i = BitVec.getLsbD (k ++ l ++ c : BitVec (1 + 13 + 2)) i := rfl
  rw [h, BitVec.getLsbD_append, BitVec.getLsbD_append]

theorem cmdWord_kind (k : BitVec 1) (l : BitVec 13) (c : BitVec 2) : (cmdWord k l c).extractLsb' 15 1 = k := by
  apply BitVec.eq_of_getLsbD_eq
  intro i hi
  obtain rfl : i = 0 := by omega
  rw [BitVec.getLsbD_extractLsb', cmdWord_getLsbD]
  simp

theorem cmdWord_len (k : BitVec 1) (l : BitVec 13) (c : BitVec 2) : (cmdWord k l c).extractLsb' 2 13 = l := by
  apply BitVec.eq_of_getLsbD_eq
  intro i hi
  have h2 : ¬ 2 + i < 2 := by omega
  rw [BitVec.getLsbD_extractLsb', cmdWord_getLsbD, if_neg h2]
  simp [hi]

theorem cmdWord_ctl (k : BitVec 1) (l : BitVec 13) (c : BitVec 2) : (cmdWord k l c).extractLsb' 0 2 = c := by
  apply BitVec.eq_of_getLsbD_eq
  intro i hi
  simp [cmdWord_getLsbD, hi]

theorem rxIdleSof : Statement (.rxIdleSof) := fun _ => rfl
theorem rxIdleEsc : Statement (.rxIdleEsc) := fun _ => rfl
theorem rxIdleX00 : Statement (.rxIdleX00) := fun _ => rfl
theorem rxIdleXaa : Statement (.rxIdleXaa) := fun _ => rfl
theorem rxIdleXff : Statement (.rxIdleXff) := fun _ => rfl
theorem rxIdleEof : Statement (.rxIdleEof) := fun _ => rfl
theorem rxIdleDat (d : Byte) : Statement (.rxIdleDat d) := by
  intro h
  simp only [wellFormed] at h
  simp [encode, decode, decodeRx, RxView.atIdle, classOf_dat h]
theorem rxFramingSof : Statement (.rxFramingSof) := fun _ => rfl
theorem rxFramingEsc : Statement (.rxFramingEsc) := fun _ => rfl
theorem rxFramingX00 : Statement (.rxFramingX00) := fun _ => rfl
theorem rxFramingXaa : Statement (.rxFramingXaa) := fun _ => rfl
theorem rxFramingXff : Statement (.rxFramingXff) := fun _ => rfl
theorem rxFramingEofValid : Statement (.rxFramingEofValid) := fun _ => rfl
theorem rxFramingEofInvalid : Statement (.rxFramingEofInvalid) := fun _ => rfl
theorem rxFramingDat (d : Byte) : Statement (.rxFramingDat d) := by
  intro h
  simp only [wellFormed] at h
  simp [encode, decode, decodeRx, RxView.atFraming, classOf_dat h]
theorem rxFramingOverflow (d : Byte) : Statement (.rxFramingOverflow d) := by
  intro h
  simp only [wellFormed, isReservedValue, Bool.not_eq_true', Bool.or_eq_false_iff, beq_eq_false_iff_ne] at h
  simp only [encode, decode, decodeRx, classOf, h.1.1, h.1.2, h.2, if_false]
  split <;> first | rfl | (next hc => split at hc <;> (try split at hc) <;> (try split at hc) <;> simp at hc)
theorem rxFramingEscSof : Statement (.rxFramingEscSof) := fun _ => rfl
theorem rxFramingEscEsc : Statement (.rxFramingEscEsc) := fun _ => rfl
theorem rxFramingEscX00 : Statement (.rxFramingEscX00) := fun _ => rfl
theorem rxFramingEscXaa : Statement (.rxFramingEscXaa) := fun _ => rfl
theorem rxFramingEscXff : Statement (.rxFramingEscXff) := fun _ => rfl
theorem rxFramingEscEof : Statement (.rxFramingEscEof) := fun _ => rfl
theorem rxFramingEscDat (d : Byte) : Statement (.rxFramingEscDat d) := by
  intro h
  simp only [wellFormed] at h
  simp [encode, decode, decodeRx, RxView.atFramingEsc, classOf_dat h]
theorem txStuffS00 : Statement (.txStuffS00) := fun _ => rfl
theorem txStuffSaa : Statement (.txStuffSaa) := fun _ => rfl
theorem txStuffSff : Statement (.txStuffSff) := fun _ => rfl
theorem txStuffOther (v : Byte) : Statement (.txStuffOther v) := by
  intro h
  simp only [wellFormed] at h
  simp [encode, decode, decodeSym, escCodeOf_other h]
theorem encodeFrame (p : List Byte) : Statement (.encodeFrame p) := fun _ => rfl
theorem txAccept (len : BitVec 13) (x : BitVec 2) : Statement (.txAccept len x) := by
  intro _
  simp [encode, decode, decodeCmd, cmdWord_kind, cmdWord_len, cmdWord_ctl]
theorem sendControl (x : BitVec 13) (k : Ctl) : Statement (.sendControl x k) := by
  intro _
  cases k <;> simp [encode, decode, decodeCmd, cmdWord_kind, cmdWord_len, cmdWord_ctl, Ctl.code]
theorem txEsc2 : Statement (.txEsc2) := fun _ => rfl
theorem txSof : Statement (.txSof) := fun _ => rfl
theorem txData (b : Byte) : Statement (.txData b) := fun _ => rfl
theorem txCrc : Statement (.txCrc) := fun _ => rfl
theorem txEof : Statement (.txEof) := fun _ => rfl
theorem txCtl : Statement (.txCtl) := fun _ => rfl
theorem crcGen : Statement (.crcGen) := fun _ => rfl
theorem crcUpd (c b : Byte) : Statement (.crcUpd c b) := fun _ => rfl
theorem crcRaw (s : List Byte) : Statement (.crcRaw s) := fun _ => rfl
theorem crcFin (s : List Byte) : Statement (.crcFin s) := fun _ => rfl
theorem crcChk (p : List Byte) : Statement (.crcChk p) := fun _ => rfl
theorem ctlBase : Statement (.ctlBase) := fun _ => rfl
theorem ctlRadio : Statement (.ctlRadio) := fun _ => rfl
theorem ctlTelem : Statement (.ctlTelem) := fun _ => rfl

end Sys2Proof.Laws.RoundTrip
end

