-- ==== Sys2Proof/Laws/Step.lean ====
section
/-! SUPPORT. What a step does with each turn: the equations the proofs over `step` cite instead of unfolding `fetch`, and, said
once, everything a step can do. -/

namespace Sys2Proof.Machine

theorem step_no_turn {s : State} (h : s.turns = []) : step s = .next s := by
  simp [step, fetch, h]

theorem step_ack {s : State} {ts : List Turn} (h : s.turns = .ack :: ts) :
    step s = .next { s with turns := ts, rxOut := none } := by
  simp [step, fetch, fetchTurn, h, State.acknowledge]

theorem step_rst {s : State} {ts : List Turn} (h : s.turns = .rst :: ts) :
    step s = .next { s with turns := ts }.applyReset := by
  simp [step, fetch, fetchTurn, h]

/-- A byte taken from the link runs the row the decoder's state selects. -/
theorem step_rx_taken {s : State} {ts : List Turn} {b : Byte} {bs : List Byte} (ht : s.turns = .rx :: ts)
    (hb : s.rxIn = b :: bs) (hr : s.rxOut = none) :
    step s = exec (decodeRx s.rxView b) { s with turns := ts, rxIn := bs } := by
  simp only [step, fetch, ht, fetchTurn, fetchRx, hb, State.rxInReady, hr, Option.isNone_none, if_true, runCode, decode]
  rfl

/-- No byte, or a payload held: the turn is used up and nothing else changes. -/
theorem step_rx_waits {s : State} {ts : List Turn} (ht : s.turns = .rx :: ts) (h : s.rxIn = [] ∨ s.rxOut ≠ none) :
    step s = .next { s with turns := ts } := by
  simp only [step, fetch, ht, fetchTurn, fetchRx, State.rxInReady]
  cases hb : s.rxIn with
  | nil => simp
  | cons b bs =>
    have hr : s.rxOut.isNone = false := by
      rcases h with h | h
      · simp [hb] at h
      · cases ho : s.rxOut <;> simp_all
    simp [hr]

/-- A command turn with nothing offered, or with the encoder busy. -/
theorem step_cmd_waits {s : State} {ts : List Turn} (ht : s.turns = .cmd :: ts)
    (h : s.txCmd = [] ∨ s.tx.phase ≠ .txIdle) : step s = .next { s with turns := ts } := by
  simp only [step, fetch, ht, fetchTurn, fetchCmd, State.txCmdReady]
  cases hb : s.txCmd with
  | nil => simp
  | cons w ws =>
    have hr : (s.tx.phase == Phase.txIdle) = false := by
      rcases h with h | h
      · simp [hb] at h
      · simpa using h
    simp [hr]

/-- A command taken: the row its pattern is, or the refusal of the one pattern that is none. -/
theorem step_cmd_taken {s : State} {ts : List Turn} {w : BitVec 16} {ws : List (BitVec 16)} (ht : s.turns = .cmd :: ts)
    (hw : s.txCmd = w :: ws) (hp : s.tx.phase = .txIdle) :
    step s = match decodeCmd w with
      | .ok i                    => exec i { s with turns := ts, txCmd := ws }
      | .error .controlCode3     => .refused .controlCode3
      | .error .notAControlFrame => .refused .notAControlFrame
      | .error .noStep           => .next { s with turns := ts } := by
  simp only [step, fetch, ht, fetchTurn, fetchCmd, hw, State.txCmdReady, hp, beq_self_eq_true, if_true, runCode, decode]
  cases decodeCmd w with
  | ok i => rfl
  | error e => cases e <;> rfl

/-- An emit turn: the enabled step, or a wait where there is none. -/
theorem step_tx {s : State} {ts : List Turn} (ht : s.turns = .tx :: ts) :
    step s = match decodeTxStep s.txView with
      | .ok i                    =>
        exec i (if s.txPlReady then { s with turns := ts, txPl := s.txPl.tail } else { s with turns := ts })
      | .error .controlCode3     => .refused .controlCode3
      | .error .notAControlFrame => .refused .notAControlFrame
      | .error .noStep           => .next { s with turns := ts } := by
  have hv : ({ s with turns := ts } : State).txView = s.txView := rfl
  have hp : ({ s with turns := ts } : State).txPlReady = s.txPlReady := rfl
  simp only [step, fetch, ht, fetchTurn, fetchTx, runCode, decode, hv, hp]
  cases decodeTxStep s.txView with
  | ok i => rfl
  | error e => cases e <;> rfl

theorem step_call {s : State} {ts : List Turn} {f : FunCall} (ht : s.turns = .call f :: ts) :
    step s = match decodeCall f with
      | .ok i                    => exec i { s with turns := ts }
      | .error .controlCode3     => .refused .controlCode3
      | .error .notAControlFrame => .refused .notAControlFrame
      | .error .noStep           => .next { s with turns := ts } := by
  simp only [step, fetch, ht, fetchTurn, runCode, decode]
  cases decodeCall f with
  | ok i => rfl
  | error e => cases e <;> rfl

/-- Everything a step can do when it answers a next state. -/
inductive StepEffect (s : State) : State → Prop where
  | unscheduled (h : s.turns = []) : StepEffect s s
  | wait (u : Turn) (ts : List Turn) (h : s.turns = u :: ts) : StepEffect s { s with turns := ts }
  | ack (ts : List Turn) (h : s.turns = .ack :: ts) : StepEffect s { s with turns := ts, rxOut := none }
  | rst (ts : List Turn) (h : s.turns = .rst :: ts) : StepEffect s { s with turns := ts }.applyReset
  | rx (ts : List Turn) (b : Byte) (bs : List Byte) (t : State) (h : s.turns = .rx :: ts) (hb : s.rxIn = b :: bs)
      (hr : s.rxOut = none) (he : RxEffect { s with turns := ts, rxIn := bs } t) : StepEffect s t
  | cmd (ts : List Turn) (w : BitVec 16) (ws : List (BitVec 16)) (t : State) (h : s.turns = .cmd :: ts)
      (hw : s.txCmd = w :: ws) (hp : s.tx.phase = .txIdle) (he : TxEffect { s with turns := ts, txCmd := ws } t) : StepEffect s t
  | tx (ts : List Turn) (pl : List Byte) (t : State) (h : s.turns = .tx :: ts) (hp : s.tx.phase ≠ .txIdle)
      (he : TxEffect { s with turns := ts, txPl := pl } t) : StepEffect s t
  | call (f : FunCall) (ts : List Turn) (r : Ret) (h : s.turns = .call f :: ts) :
      StepEffect s ({ s with turns := ts }.answer r)

theorem step_effect {s t : State} (h : step s = .next t) : StepEffect s t := by
  cases ht : s.turns with
  | nil => rw [step_no_turn ht] at h; injection h with h; subst h; exact .unscheduled ht
  | cons u ts =>
    cases u with
    | ack => rw [step_ack ht] at h; injection h with h; subst h; exact .ack ts ht
    | rst => rw [step_rst ht] at h; injection h with h; subst h; exact .rst ts ht
    | rx =>
      cases hb : s.rxIn with
      | nil => rw [step_rx_waits ht (.inl hb)] at h; injection h with h; subst h; exact .wait _ ts ht
      | cons b bs =>
        by_cases hr : s.rxOut = none
        · rw [step_rx_taken ht hb hr] at h
          exact .rx ts b bs t ht hb hr (exec_rx_effect (decodeRx_kind _ _) h)
        · rw [step_rx_waits ht (.inr hr)] at h; injection h with h; subst h; exact .wait _ ts ht
    | cmd =>
      cases hw : s.txCmd with
      | nil => rw [step_cmd_waits ht (.inl hw)] at h; injection h with h; subst h; exact .wait _ ts ht
      | cons w ws =>
        by_cases hp : s.tx.phase = .txIdle
        · rw [step_cmd_taken ht hw hp] at h
          split at h
          · next i hd => exact .cmd ts w ws t ht hw hp (exec_tx_effect (decodeCmd_kind hd) h)
          · cases h
          · cases h
          · injection h with h; subst h; exact .wait _ ts ht
        · rw [step_cmd_waits ht (.inr hp)] at h; injection h with h; subst h; exact .wait _ ts ht
    | tx =>
      rw [step_tx ht] at h
      split at h
      · next i hd =>
        have hp : s.tx.phase ≠ .txIdle := by intro e; simp [State.txView, decodeTxStep, e] at hd
        have he := exec_tx_effect (decodeTxStep_kind hd) h
        split at he
        · exact .tx ts s.txPl.tail t ht hp he
        · exact .tx ts s.txPl t ht hp he
      · cases h
      · cases h
      · injection h with h; subst h; exact .wait _ ts ht
    | call f =>
      rw [step_call ht] at h
      split at h
      · next i hd =>
        obtain ⟨r, hr⟩ := exec_function_row { s with turns := ts } (decodeCall_kind hd)
        rw [hr] at h
        injection h with h
        subst h
        exact .call f ts r ht
      · cases h
      · cases h
      · injection h with h; subst h; exact .wait _ ts ht

end Sys2Proof.Machine
end

