-- ==== Sys2Proof/Tests/Slice0.lean ====
section
/-! SUPPORT. The model's own tests. Expected results come from spec/95_test_vectors.md (the vector or program is named) or from
the rule named; the words are written out from spec/opcode_table.json. The last part gives, for every statement with
hypotheses, a state and operands that meet them. -/

namespace Sys2Proof.Tests

open Sys2Proof Sys2Proof.Machine

/-! ### Helpers -/

/-- The next state, if the answer is one. -/
def after : Answer → Option State
  | .next t    => some t
  | .fault _   => none
  | .refused _ => none

/-- The decoder's part of an answer: registers, label, payloads delivered. -/
def rxAfter (a : Answer) : Option (Rx × Option Drop × List (List Byte)) :=
  (after a).map fun t => (t.rx, t.rxDiag, t.delivered)

/-- The encoder's part of an answer: registers and wire. -/
def txAfter (a : Answer) : Option (Tx × List Byte) := (after a).map fun t => (t.tx, t.txOut)

/-- What a function call returned. -/
def retAfter (a : Answer) : Option Ret := (after a).map fun t => t.ret

/-- The refusal, if the answer is one. -/
def refusal : Answer → Option Refusal
  | .next _    => none
  | .fault _   => none
  | .refused r => some r

/-- A decoder with the given registers, everything else as after reset. -/
def rxAt (mode : Mode) (esc : Bool) (crc : Byte) (acc : List Byte) : State :=
  { State.reset with rx := ⟨mode, esc, crc, acc⟩ }

/-- `s` built with other parameters. -/
def withCfg (c : Config) (s : State) : State := { s with cfg := c }

/-- An encoder with the given registers, everything else as after reset. -/
def txAt (phase : Phase) (crc : Byte) (rem : Nat) (esc2 : Option EscCode) : State :=
  { State.reset with tx := ⟨phase, crc, rem, esc2, .base, 0⟩ }

/-- An encoder in a control frame. -/
def ctlAt (k : Ctl) (idx : Fin 5) : State := { State.reset with tx := ⟨.txCtl, 0x00#8, 0, none, k, idx⟩ }

/-- `s` with the next turn, and what the ports offer. -/
def offering (t : Turn) (rxIn : List Byte) (txCmd : List (BitVec 16)) (txPl : List Byte) (s : State) : State :=
  { s with turns := [t], rxIn := rxIn, txCmd := txCmd, txPl := txPl }

/-- `s` while a payload is on offer. -/
def holding (p : List Byte) (s : State) : State := { s with rxOut := some p, delivered := [p] }

/-! ### Ill-formed terms: one for each check of WellFormed -/

theorem test_illformed_rxIdleDat_sof : wellFormed (.rxIdleDat 0x00#8) = false := by decide
theorem test_illformed_rxFramingDat_esc : wellFormed (.rxFramingDat 0xaa#8) = false := by decide
theorem test_illformed_rxFramingOverflow_eof : wellFormed (.rxFramingOverflow 0xff#8) = false := by decide
theorem test_illformed_rxFramingEscDat_code : wellFormed (.rxFramingEscDat 0xab#8) = false := by decide
theorem test_illformed_txStuffOther_reserved : wellFormed (.txStuffOther 0x00#8) = false := by decide

/-! ### Decoding: a word of every row, written out from the opcode table -/

theorem test_decode_rxIdleSof :
    decode (.rxByte ⟨.idle, false, false, false⟩ 0b00000000#8) = .ok (.rxIdleSof) := by decide
theorem test_decode_rxIdleEsc :
    decode (.rxByte ⟨.idle, false, false, false⟩ 0b10101010#8) = .ok (.rxIdleEsc) := by decide
theorem test_decode_rxIdleX00 :
    decode (.rxByte ⟨.idle, false, false, false⟩ 0b10101011#8) = .ok (.rxIdleX00) := by decide
theorem test_decode_rxIdleXaa :
    decode (.rxByte ⟨.idle, false, false, false⟩ 0b10101100#8) = .ok (.rxIdleXaa) := by decide
theorem test_decode_rxIdleXff :
    decode (.rxByte ⟨.idle, false, false, false⟩ 0b10101101#8) = .ok (.rxIdleXff) := by decide
theorem test_decode_rxIdleEof :
    decode (.rxByte ⟨.idle, false, false, false⟩ 0b11111111#8) = .ok (.rxIdleEof) := by decide
theorem test_decode_rxIdleDat :
    decode (.rxByte ⟨.idle, false, false, false⟩ 0b00110111#8) = .ok (.rxIdleDat 0x37#8) := by decide
theorem test_decode_rxFramingSof :
    decode (.rxByte ⟨.framing, false, false, false⟩ 0b00000000#8) = .ok (.rxFramingSof) := by decide
theorem test_decode_rxFramingEsc :
    decode (.rxByte ⟨.framing, false, false, false⟩ 0b10101010#8) = .ok (.rxFramingEsc) := by decide
theorem test_decode_rxFramingX00 :
    decode (.rxByte ⟨.framing, false, false, false⟩ 0b10101011#8) = .ok (.rxFramingX00) := by decide
theorem test_decode_rxFramingXaa :
    decode (.rxByte ⟨.framing, false, false, false⟩ 0b10101100#8) = .ok (.rxFramingXaa) := by decide
theorem test_decode_rxFramingXff :
    decode (.rxByte ⟨.framing, false, false, false⟩ 0b10101101#8) = .ok (.rxFramingXff) := by decide
theorem test_decode_rxFramingEofValid :
    decode (.rxByte ⟨.framing, false, false, true⟩ 0b11111111#8) = .ok (.rxFramingEofValid) := by decide
theorem test_decode_rxFramingEofInvalid :
    decode (.rxByte ⟨.framing, false, false, false⟩ 0b11111111#8) = .ok (.rxFramingEofInvalid) := by decide
theorem test_decode_rxFramingDat :
    decode (.rxByte ⟨.framing, false, false, false⟩ 0b11111110#8) = .ok (.rxFramingDat 0xfe#8) := by decide
theorem test_decode_rxFramingOverflow :
    decode (.rxByte ⟨.framing, false, true, false⟩ 0b10101110#8) = .ok (.rxFramingOverflow 0xae#8) := by decide
theorem test_decode_rxFramingEscSof :
    decode (.rxByte ⟨.framing, true, false, false⟩ 0b00000000#8) = .ok (.rxFramingEscSof) := by decide
theorem test_decode_rxFramingEscEsc :
    decode (.rxByte ⟨.framing, true, false, false⟩ 0b10101010#8) = .ok (.rxFramingEscEsc) := by decide
theorem test_decode_rxFramingEscX00 :
    decode (.rxByte ⟨.framing, true, false, false⟩ 0b10101011#8) = .ok (.rxFramingEscX00) := by decide
theorem test_decode_rxFramingEscXaa :
    decode (.rxByte ⟨.framing, true, false, false⟩ 0b10101100#8) = .ok (.rxFramingEscXaa) := by decide
theorem test_decode_rxFramingEscXff :
    decode (.rxByte ⟨.framing, true, false, false⟩ 0b10101101#8) = .ok (.rxFramingEscXff) := by decide
theorem test_decode_rxFramingEscEof :
    decode (.rxByte ⟨.framing, true, false, false⟩ 0b11111111#8) = .ok (.rxFramingEscEof) := by decide
theorem test_decode_rxFramingEscDat :
    decode (.rxByte ⟨.framing, true, false, false⟩ 0b10101110#8) = .ok (.rxFramingEscDat 0xae#8) := by decide
theorem test_decode_txStuffS00 :
    decode (.txSym 0b00000000#8) = .ok (.txStuffS00) := by decide
theorem test_decode_txStuffSaa :
    decode (.txSym 0b10101010#8) = .ok (.txStuffSaa) := by decide
theorem test_decode_txStuffSff :
    decode (.txSym 0b11111111#8) = .ok (.txStuffSff) := by decide
theorem test_decode_txStuffOther :
    decode (.txSym 0b10101011#8) = .ok (.txStuffOther 0xab#8) := by decide
theorem test_decode_encodeFrame :
    decode (.function (.encode [0x01#8])) = .ok (.encodeFrame [0x01#8]) := by decide
theorem test_decode_txAccept :
    decode (.txCmd 0b0000000000010111#16) = .ok (.txAccept 5#13 3#2) := by decide
theorem test_decode_sendControl :
    decode (.txCmd 0b1000000000101001#16) = .ok (.sendControl 10#13 .radio) := by decide
theorem test_decode_txEsc2 :
    decode (.txStep ⟨.txEof, true, none⟩) = .ok (.txEsc2) := by decide
theorem test_decode_txSof :
    decode (.txStep ⟨.txSof, false, (some 0x01#8)⟩) = .ok (.txSof) := by decide
theorem test_decode_txData :
    decode (.txStep ⟨.txData, false, (some 0x01#8)⟩) = .ok (.txData 0x01#8) := by decide
theorem test_decode_txCrc :
    decode (.txStep ⟨.txCrc, false, none⟩) = .ok (.txCrc) := by decide
theorem test_decode_txEof :
    decode (.txStep ⟨.txEof, false, none⟩) = .ok (.txEof) := by decide
theorem test_decode_txCtl :
    decode (.txStep ⟨.txCtl, false, none⟩) = .ok (.txCtl) := by decide
theorem test_decode_crcGen :
    decode (.function .crcGen) = .ok (.crcGen) := by decide
theorem test_decode_crcUpd :
    decode (.function (.crcUpd 0x49#8 0x02#8)) = .ok (.crcUpd 0x49#8 0x02#8) := by decide
theorem test_decode_crcRaw :
    decode (.function (.crcRaw [0x01#8])) = .ok (.crcRaw [0x01#8]) := by decide
theorem test_decode_crcFin :
    decode (.function (.crcFin [0x01#8])) = .ok (.crcFin [0x01#8]) := by decide
theorem test_decode_crcChk :
    decode (.function (.crcChk [0x01#8])) = .ok (.crcChk [0x01#8]) := by decide
theorem test_decode_ctlBase :
    decode (.ctlFrame [0b00000000#8, 0b10101010#8, 0b10101110#8, 0b11111110#8, 0b11111111#8]) = .ok (.ctlBase) := by decide
theorem test_decode_ctlRadio :
    decode (.ctlFrame [0b00000000#8, 0b10101010#8, 0b10101111#8, 0b10110111#8, 0b11111111#8]) = .ok (.ctlRadio) := by decide
theorem test_decode_ctlTelem :
    decode (.ctlFrame [0b00000000#8, 0b10101010#8, 0b10111010#8, 0b01101110#8, 0b11111111#8]) = .ok (.ctlTelem) := by decide

/-- U5: the code 3 is no command, whatever the other bits. -/
theorem test_decode_control_code_3 : decode (.txCmd 0b1111111111111111#16) = .error .controlCode3 := by decide
/-- One wrong bit in the check byte. -/
theorem test_decode_not_a_control_frame :
    decode (.ctlFrame [0x00#8, 0xaa#8, 0xae#8, 0xff#8, 0xff#8]) = .error .notAControlFrame := by decide
/-- R119, R126: no payload byte offered. -/
theorem test_decode_starved : decode (.txStep ⟨.txData, false, none⟩) = .error .noStep := by decide
/-- The table's control frame, first byte most significant, and the same bytes with the first least significant. -/
theorem test_decodeTableWord_frame :
    decodeTableWord 40 0x00aaba6eff = some .ctlTelem ∧ decodeTableWord 40 0xff6ebaaa00 = some .ctlTelem := by decide
/-- A placed word is the very next thing a step runs. -/
theorem test_withFetchWord_runs :
    (after (step (State.reset.withFetchWord 8 0x00))).map (fun t => t.rx.mode) = some .framing ∧
    (after (step (State.reset.withFetchWord 16 0x4004))).map (fun t => t.txCmdStatus) = some (some .payloadTooLarge) ∧
    retAfter (step (State.reset.withFetchWord 40 0x00aaaefeff)) =
      some (.bytes [0x00#8, 0xaa#8, 0xae#8, 0xfe#8, 0xff#8]) := by decide
/-- U5 at a step. -/
theorem test_step_refuses_control_code_3 :
    refusal (step (State.reset.withFetchWord 16 0x8003)) = some .controlCode3 := by decide

/-! ### Decoder rows (vector 3.6; the variants of vector 3.7) -/

theorem test_rxIdleSof :
    rxAfter (exec (.rxIdleSof) (rxAt .idle false 0x00#8 [])) =
      some (⟨.framing, false, 0x00#8, []⟩, none, []) := by decide
theorem test_rxIdleEsc :
    rxAfter (exec (.rxIdleEsc) (rxAt .idle false 0x00#8 [])) =
      some (⟨.idle, false, 0x00#8, []⟩, none, []) := by decide
theorem test_rxIdleX00 :
    rxAfter (exec (.rxIdleX00) (rxAt .idle false 0x00#8 [])) =
      some (⟨.idle, false, 0x00#8, []⟩, none, []) := by decide
theorem test_rxIdleXaa :
    rxAfter (exec (.rxIdleXaa) (rxAt .idle false 0x00#8 [])) =
      some (⟨.idle, false, 0x00#8, []⟩, none, []) := by decide
theorem test_rxIdleXff :
    rxAfter (exec (.rxIdleXff) (rxAt .idle false 0x00#8 [])) =
      some (⟨.idle, false, 0x00#8, []⟩, none, []) := by decide
theorem test_rxIdleEof :
    rxAfter (exec (.rxIdleEof) (rxAt .idle false 0x00#8 [])) =
      some (⟨.idle, false, 0x00#8, []⟩, none, []) := by decide
theorem test_rxIdleDat :
    rxAfter (exec (.rxIdleDat 0x37#8) (rxAt .idle false 0x00#8 [])) =
      some (⟨.idle, false, 0x00#8, []⟩, none, []) := by decide
theorem test_rxFramingSof :
    rxAfter (exec (.rxFramingSof) (rxAt .framing false 0x72#8 [0x10#8, 0x20#8])) =
      some (⟨.framing, false, 0x00#8, []⟩, some .restart, []) := by decide
/-- R187: no label where nothing was collected. -/
theorem test_rxFramingSof_empty :
    rxAfter (exec (.rxFramingSof) (rxAt .framing false 0x00#8 [])) =
      some (⟨.framing, false, 0x00#8, []⟩, none, []) := by decide
theorem test_rxFramingEsc :
    rxAfter (exec (.rxFramingEsc) (rxAt .framing false 0x49#8 [0x01#8])) =
      some (⟨.framing, true, 0x49#8, [0x01#8]⟩, none, []) := by decide
theorem test_rxFramingX00 :
    rxAfter (exec (.rxFramingX00) (rxAt .framing false 0x49#8 [0x01#8])) =
      some (⟨.framing, false, 0x50#8, [0x01#8, 0xab#8]⟩, none, []) := by decide
/-- R92: T[49 ^ ac] = T[e5] = e6. -/
theorem test_rxFramingXaa :
    rxAfter (exec (.rxFramingXaa) (rxAt .framing false 0x49#8 [0x01#8])) =
      some (⟨.framing, false, 0xe6#8, [0x01#8, 0xac#8]⟩, none, []) := by decide
/-- R92: T[49 ^ ad] = T[e4] = af. -/
theorem test_rxFramingXff :
    rxAfter (exec (.rxFramingXff) (rxAt .framing false 0x49#8 [0x01#8])) =
      some (⟨.framing, false, 0xaf#8, [0x01#8, 0xad#8]⟩, none, []) := by decide
theorem test_rxFramingEofValid :
    rxAfter (exec (.rxFramingEofValid) (rxAt .framing false 0x53#8 [0x01#8, 0x02#8, 0x03#8, 0xb2#8])) =
      some (⟨.idle, false, 0x00#8, []⟩, none, [[0x01#8, 0x02#8, 0x03#8]]) := by decide
theorem test_rxFramingEofInvalid :
    rxAfter (exec (.rxFramingEofInvalid) (rxAt .framing false 0x1a#8 [0x01#8, 0x02#8, 0x03#8, 0xb3#8])) =
      some (⟨.idle, false, 0x00#8, []⟩, some .crcMismatch, []) := by decide
theorem test_rxFramingEofInvalid_short :
    rxAfter (exec (.rxFramingEofInvalid) (rxAt .framing false 0x53#8 [0xff#8])) =
      some (⟨.idle, false, 0x00#8, []⟩, some .tooShort, []) := by decide
theorem test_rxFramingDat :
    rxAfter (exec (.rxFramingDat 0x02#8) (rxAt .framing false 0x49#8 [0x01#8])) =
      some (⟨.framing, false, 0x2e#8, [0x01#8, 0x02#8]⟩, none, []) := by decide
/-- R150, with a capacity of one byte. -/
theorem test_rxFramingDat_full :
    rxAfter (exec (.rxFramingDat 0x02#8) (withCfg ⟨some 1, .restart, .stayPending⟩ (rxAt .framing false 0x49#8 [0x01#8]))) =
      some (⟨.idle, false, 0x00#8, []⟩, some .overflow, []) := by decide
theorem test_rxFramingOverflow :
    rxAfter (exec (.rxFramingOverflow 0x02#8) (withCfg ⟨some 1, .restart, .stayPending⟩ (rxAt .framing false 0x49#8 [0x01#8]))) =
      some (⟨.idle, false, 0x00#8, []⟩, some .overflow, []) := by decide
theorem test_rxFramingEscSof :
    rxAfter (exec (.rxFramingEscSof) (rxAt .framing true 0x49#8 [0x01#8])) =
      some (⟨.framing, false, 0x00#8, []⟩, some .restart, []) := by decide
theorem test_rxFramingEscSof_abort :
    rxAfter (exec (.rxFramingEscSof) (withCfg ⟨none, .abort, .stayPending⟩ (rxAt .framing true 0x49#8 [0x01#8]))) =
      some (⟨.idle, false, 0x00#8, []⟩, some .malformedEscape, []) := by decide
theorem test_rxFramingEscEsc :
    rxAfter (exec (.rxFramingEscEsc) (rxAt .framing true 0x49#8 [0x01#8])) =
      some (⟨.framing, true, 0x49#8, [0x01#8]⟩, none, []) := by decide
theorem test_rxFramingEscEsc_abort :
    rxAfter (exec (.rxFramingEscEsc) (withCfg ⟨none, .restart, .abort⟩ (rxAt .framing true 0x49#8 [0x01#8]))) =
      some (⟨.idle, false, 0x00#8, []⟩, some .malformedEscape, []) := by decide
theorem test_rxFramingEscX00 :
    rxAfter (exec (.rxFramingEscX00) (rxAt .framing true 0x49#8 [0x01#8])) =
      some (⟨.framing, false, 0xbc#8, [0x01#8, 0x00#8]⟩, none, []) := by decide
theorem test_rxFramingEscXaa :
    rxAfter (exec (.rxFramingEscXaa) (rxAt .framing true 0xbc#8 [0x01#8, 0x00#8])) =
      some (⟨.framing, false, 0x02#8, [0x01#8, 0x00#8, 0xaa#8]⟩, none, []) := by decide
theorem test_rxFramingEscXff :
    rxAfter (exec (.rxFramingEscXff) (rxAt .framing true 0x02#8 [0x01#8, 0x00#8, 0xaa#8])) =
      some (⟨.framing, false, 0xc1#8, [0x01#8, 0x00#8, 0xaa#8, 0xff#8]⟩, none, []) := by decide
/-- R150 with an escape pending. -/
theorem test_rxFramingEscXff_full :
    rxAfter (exec (.rxFramingEscXff) (withCfg ⟨some 1, .restart, .stayPending⟩ (rxAt .framing true 0x49#8 [0x01#8]))) =
      some (⟨.idle, false, 0x00#8, []⟩, some .overflow, []) := by decide
theorem test_rxFramingEscEof :
    rxAfter (exec (.rxFramingEscEof) (rxAt .framing true 0x24#8 [0x05#8])) =
      some (⟨.idle, false, 0x00#8, []⟩, some .malformedEscape, []) := by decide
theorem test_rxFramingEscDat :
    rxAfter (exec (.rxFramingEscDat 0xae#8) (rxAt .framing true 0x00#8 [])) =
      some (⟨.idle, false, 0x00#8, []⟩, some .malformedEscape, []) := by decide

/-- R28, R155: a held payload stops the decoder. -/
theorem test_held_payload : after (exec .rxIdleSof (holding [0x01#8] State.reset)) = some (holding [0x01#8] State.reset) := by
  decide
/-- R28, vector 3.6: the length delivered is one less than the accumulator's; after the acknowledgement there is none (log 32). -/
theorem test_rxOutLen :
    (after (exec .rxFramingEofValid (rxAt .framing false 0x53#8 [0x01#8, 0x02#8, 0x03#8, 0xb2#8]))).map
      (fun t => (t.rxOutLen, t.rxOutData 2, t.rxOutData 3, t.acknowledge.rxOutLen)) =
      some (some 3, some 0x03#8, none, none) := by decide
/-- A row outside its state (log 13). -/
theorem test_not_selected : refusal (exec .rxFramingEsc State.reset) = some .notSelected := by decide

/-! ### Encoder rows (vectors 3.4, 3.5, 3.9) -/

theorem test_txAccept :
    txAfter (exec (.txAccept 5#13 3#2) (txAt .txIdle 0xd4#8 0 none)) = some (⟨.txSof, 0x00#8, 5, none, .base, 0⟩, []) := by decide
theorem test_txAccept_4097 :
    after (exec (.txAccept 4097#13 0#2) State.reset) = some { State.reset with txCmdStatus := some .payloadTooLarge } := by
  decide
theorem test_sendControl :
    txAfter (exec (.sendControl 8191#13 .telem) (txAt .txIdle 0xd4#8 0 none)) = some (⟨.txCtl, 0xd4#8, 0, none, .telem, 0⟩, []) := by decide
theorem test_txEsc2 :
    txAfter (exec (.txEsc2) (txAt .txData 0xbc#8 3 (some .x00))) = some (⟨.txData, 0xbc#8, 3, none, .base, 0⟩, [0xab#8]) := by decide
theorem test_txSof :
    txAfter (exec (.txSof) (txAt .txSof 0x00#8 5 none)) = some (⟨.txData, 0x00#8, 5, none, .base, 0⟩, [0x00#8]) := by decide
theorem test_txSof_empty :
    txAfter (exec (.txSof) (txAt .txSof 0x00#8 0 none)) = some (⟨.txCrc, 0x00#8, 0, none, .base, 0⟩, [0x00#8]) := by decide
theorem test_txData_reserved :
    txAfter (exec (.txData 0x00#8) (txAt .txData 0x49#8 4 none)) = some (⟨.txData, 0xbc#8, 3, (some .x00), .base, 0⟩, [0xaa#8]) := by decide
theorem test_txData_last :
    txAfter (exec (.txData 0xab#8) (txAt .txData 0xc1#8 1 none)) = some (⟨.txCrc, 0xd4#8, 0, none, .base, 0⟩, [0xab#8]) := by decide
theorem test_txCrc :
    txAfter (exec (.txCrc) (txAt .txCrc 0xd4#8 0 none)) = some (⟨.txEof, 0xd4#8, 0, none, .base, 0⟩, [0x2b#8]) := by decide
theorem test_txCrc_stuffed :
    txAfter (exec (.txCrc) (txAt .txCrc 0x00#8 0 none)) = some (⟨.txEof, 0x00#8, 0, (some .xff), .base, 0⟩, [0xaa#8]) := by decide
theorem test_txEof :
    txAfter (exec (.txEof) (txAt .txEof 0xd4#8 0 none)) = some (⟨.txIdle, 0xd4#8, 0, none, .base, 0⟩, [0xff#8]) := by decide
theorem test_txCtl : txAfter (exec .txCtl (ctlAt .telem 2)) = some (⟨.txCtl, 0x00#8, 0, none, .telem, 3⟩, [0xba#8]) := by decide
theorem test_txCtl_last : txAfter (exec .txCtl (ctlAt .telem 4)) = some (⟨.txIdle, 0x00#8, 0, none, .telem, 0⟩, [0xff#8]) := by
  decide
/-- TX.DATA takes the byte offered on tx_pl; TX.ESC2 leaves it there. -/
theorem test_step_takes_payload :
    (after (step (offering .tx [] [] [0x00#8, 0x07#8] (txAt .txData 0x49#8 4 none)))).map (fun t => (t.txPl, t.txOut)) =
      some ([0x07#8], [0xaa#8]) ∧
    (after (step (offering .tx [] [] [0x07#8] (txAt .txData 0xbc#8 3 (some .x00))))).map (fun t => (t.txPl, t.txOut)) =
      some ([0x07#8], [0xab#8]) := by decide

/-! ### Functions (vectors 3.1, 3.2, 3.3; R64, R171) -/

theorem test_txStuffS00 :
    retAfter (exec (.txStuffS00) State.reset) = some (.bytes [0xaa#8, 0xab#8]) := by decide
theorem test_txStuffSaa :
    retAfter (exec (.txStuffSaa) State.reset) = some (.bytes [0xaa#8, 0xac#8]) := by decide
theorem test_txStuffSff :
    retAfter (exec (.txStuffSff) State.reset) = some (.bytes [0xaa#8, 0xad#8]) := by decide
theorem test_txStuffOther :
    retAfter (exec (.txStuffOther 0xac#8) State.reset) = some (.bytes [0xac#8]) := by decide
theorem test_encodeFrame :
    retAfter (exec (.encodeFrame [0x01#8, 0x00#8, 0xaa#8, 0xff#8, 0xab#8]) State.reset) =
      some (.bytes [0x00#8, 0x01#8, 0xaa#8, 0xab#8, 0xaa#8, 0xac#8, 0xaa#8, 0xad#8, 0xab#8, 0x2b#8, 0xff#8]) := by decide +kernel
theorem test_encodeFrame_empty :
    retAfter (exec (.encodeFrame []) State.reset) = some (.bytes [0x00#8, 0xaa#8, 0xad#8, 0xff#8]) := by decide
/-- The table's entries 01, 80 and ff. -/
theorem test_crcGen : (retAfter (exec .crcGen State.reset)).map (fun r =>
    match r with
    | .bytes t => (t.length, t[0x01]?, t[0x80]?, t[0xff]?)
    | .nothing => (0, none, none, none)
    | .byte _ => (0, none, none, none)
    | .payloadTooLarge => (0, none, none, none)
    | .residue _ _ => (0, none, none, none)) = some (256, some 0x49#8, some 0x5e#8, some 0x53#8) := by decide +kernel
theorem test_crcUpd :
    retAfter (exec (.crcUpd 0x49#8 0x02#8) State.reset) = some (.byte 0x2e#8) := by decide
theorem test_crcRaw :
    retAfter (exec (.crcRaw [0x31#8, 0x32#8, 0x33#8, 0x34#8, 0x35#8, 0x36#8, 0x37#8, 0x38#8, 0x39#8]) State.reset) = some (.byte 0x6b#8) := by decide +kernel
theorem test_crcFin :
    retAfter (exec (.crcFin [0x31#8, 0x32#8, 0x33#8, 0x34#8, 0x35#8, 0x36#8, 0x37#8, 0x38#8, 0x39#8]) State.reset) = some (.byte 0x94#8) := by decide +kernel
theorem test_crcChk :
    retAfter (exec (.crcChk [0x42#8, 0x43#8]) State.reset) = some (.residue 0x53#8 true) := by decide
theorem test_ctlBase :
    retAfter (exec (.ctlBase) State.reset) = some (.bytes [0x00#8, 0xaa#8, 0xae#8, 0xfe#8, 0xff#8]) := by decide
theorem test_ctlRadio :
    retAfter (exec (.ctlRadio) State.reset) = some (.bytes [0x00#8, 0xaa#8, 0xaf#8, 0xb7#8, 0xff#8]) := by decide
theorem test_ctlTelem :
    retAfter (exec (.ctlTelem) State.reset) = some (.bytes [0x00#8, 0xaa#8, 0xba#8, 0x6e#8, 0xff#8]) := by decide

/-! ### The programs P2, P4, P5 (section 4), as folds of one-byte steps -/

theorem test_program_P2 :
    decodeStream Config.default
      [0x37#8, 0xff#8, 0xaa#8, 0xab#8, 0x00#8, 0x10#8, 0x20#8, 0x00#8, 0x05#8, 0xaa#8, 0x07#8, 0x99#8, 0xff#8, 0x00#8, 0x01#8, 0x02#8, 0x03#8, 0xb2#8, 0xff#8] = [[0x01#8, 0x02#8, 0x03#8]] := by
  decide +kernel
theorem test_program_P4 :
    decodeStream Config.default
      [0x00#8, 0x0b#8, 0x00#8, 0x33#8, 0x44#8, 0x3a#8, 0xff#8] = [[0x33#8, 0x44#8]] := by
  decide +kernel
theorem test_program_P5 :
    decodeStream Config.default
      [0x00#8, 0xaa#8, 0xad#8, 0xff#8] = [] := by
  decide +kernel

/-! ### Witnesses: for every statement with hypotheses, a state and operands that meet them, clause by clause -/

/-- An open frame with one symbol, and a capacity. -/
def oneSymbol (esc : Bool) (cap : Option Nat) : State :=
  withCfg ⟨cap, .restart, .stayPending⟩ (rxAt .framing esc 0x49#8 [0x01#8])

/-- A complete frame's symbols (program P6), its EOF to come. -/
def complete : State := offering .rx [0xff#8] [] [] (rxAt .framing false 0x53#8 [0x10#8, 0x02#8])

/-- The encoder with one payload byte left to take. -/
def lastByte : State := offering .tx [] [] [0xab#8] (txAt .txData 0xc1#8 1 none)

/-- The step of a state answers. -/
def answers (s : State) : Bool := (after (step s)).isSome

theorem step_next_of_answers {s : State} (h : answers s = true) : ∃ t, step s = .next t := by
  unfold answers after at h
  split at h
  · exact ⟨_, ‹_›⟩
  · simp at h
  · simp at h

theorem witness_DecodeAndEncodeAgree :
    wellFormed (.rxFramingDat 0xa9#8) = true ∧ wellFormed (.rxFramingOverflow 0xad#8) = true ∧
    wellFormed (.rxFramingEscDat 0xae#8) = true ∧ wellFormed (.txStuffOther 0xfe#8) = true ∧
    wellFormed (.sendControl 8191#13 .telem) = true ∧
    decode (.txCmd 0b0111111111111111#16) = .ok (.txAccept 8191#13 3#2) := by decide

theorem witness_StepRunsTheDecodedInstruction :
    (complete.turns = .rx :: [] ∧ complete.rxIn = 0xff#8 :: [] ∧ complete.rxOut = none ∧
      decode (.rxByte complete.rxView 0xff#8) = .ok .rxFramingEofValid) ∧
    (let s := offering .cmd [] [0x8002#16] [] State.reset
     s.turns = .cmd :: [] ∧ s.txCmd = 0x8002#16 :: [] ∧ s.tx.phase = .txIdle ∧
      decode (.txCmd 0x8002#16) = .ok (.sendControl 0#13 .telem)) ∧
    (lastByte.turns = .tx :: [] ∧ decode (.txStep lastByte.txView) = .ok (.txData 0xab#8)) ∧
    (let s := offering (.call (.stuff 0x00#8)) [] [] [] State.reset
     s.turns = .call (.stuff 0x00#8) :: [] ∧ decode (.function (.stuff 0x00#8)) = .ok .txStuffS00) := by decide

theorem witness_WaitingChangesNothingElse :
    State.reset.turns = [] ∧
    (let s := offering .rx [] [] [] State.reset
     s.turns = .rx :: [] ∧ s.rxIn = []) ∧
    (let s := holding [0x01#8] (offering .rx [0x00#8] [] [] State.reset)
     s.turns = .rx :: [] ∧ s.rxOut ≠ none) ∧
    (let s := offering .cmd [] [] [] State.reset
     s.turns = .cmd :: [] ∧ s.txCmd = []) ∧
    (let s := offering .cmd [] [0x8000#16] [] (txAt .txEof 0x00#8 0 none)
     s.turns = .cmd :: [] ∧ s.tx.phase ≠ .txIdle) ∧
    (let s := offering .tx [] [] [] State.reset
     s.turns = .tx :: [] ∧ s.tx.phase = .txIdle) ∧
    (let s := offering .tx [] [] [] (txAt .txData 0x00#8 1 none)
     s.turns = .tx :: [] ∧ s.tx.phase = .txData ∧ s.tx.esc2 = none ∧ s.txPl = []) := by decide

theorem witness_StepAlwaysAnswers :
    let s := offering .cmd [] [0x8003#16] [] State.reset
    s.turns = .cmd :: [] ∧ s.txCmd = 0x8003#16 :: [] ∧ s.tx.phase = .txIdle ∧
      (0x8003#16).extractLsb' 15 1 = 1#1 ∧ (0x8003#16).extractLsb' 0 2 = 3#2 := by decide

theorem witness_RxIdleSofOpensAFrame : State.reset.rxOut = none ∧ State.reset.rx.mode = .idle := by decide

theorem witness_RxIdleBytesAreIgnored :
    State.reset.rxOut = none ∧ State.reset.rx.mode = .idle ∧ Instr.rxIdleEof ∈
      [Instr.rxIdleEsc, .rxIdleX00, .rxIdleXaa, .rxIdleXff, .rxIdleEof] := by decide

theorem witness_RxSofRestartsTheFrame :
    (let s := rxAt .framing false 0x00#8 []
     s.rxOut = none ∧ s.rx.mode = .framing ∧ s.rx.esc = false) ∧
    (let s := rxAt .framing true 0x00#8 []
     s.rxOut = none ∧ s.rx.mode = .framing ∧ s.rx.esc = true ∧ s.cfg.escThenSof = .restart) ∧
    (let s := withCfg ⟨none, .abort, .abort⟩ (rxAt .framing true 0x00#8 [])
     s.rxOut = none ∧ s.rx.mode = .framing ∧ s.rx.esc = true ∧ s.cfg.escThenSof = .abort) := by decide

theorem witness_RxEscapeMarkerSetsTheFlag :
    (let s := oneSymbol false none
     s.rxOut = none ∧ s.rx.mode = .framing ∧ s.rx.esc = false) ∧
    (let s := oneSymbol true none
     s.rxOut = none ∧ s.rx.mode = .framing ∧ s.rx.esc = true ∧ s.cfg.escThenEsc = .stayPending) ∧
    (let s := withCfg ⟨none, .abort, .abort⟩ (oneSymbol true none)
     s.rxOut = none ∧ s.rx.mode = .framing ∧ s.rx.esc = true ∧ s.cfg.escThenEsc = .abort) := by decide

theorem witness_RxCodeIsUnstuffed_full :
    (oneSymbol true (some 1)).rx.esc = true ∧ (oneSymbol true (some 1)).rx.mode = .framing ∧
    (oneSymbol true (some 1)).cfg.accCap = some (oneSymbol true (some 1)).rx.acc.length := by decide

theorem witness_RxCodeIsUnstuffed :
    ∀ cap ∈ [none, some 2, some 4097],
      let s := oneSymbol true cap
      s.rxOut = none ∧ s.rx.mode = .framing ∧ s.rx.esc = true ∧ s.cfg.accCap ≠ some s.rx.acc.length ∧
        (Instr.rxFramingEscXff, 0xff#8) ∈
          [(Instr.rxFramingEscX00, 0x00#8), (.rxFramingEscXaa, 0xaa#8), (.rxFramingEscXff, 0xff#8)] := by decide

theorem witness_RxMalformedEscapeAborts :
    let s := withCfg ⟨none, .abort, .abort⟩ (oneSymbol true none)
    s.rxOut = none ∧ s.rx.mode = .framing ∧ s.rx.esc = true ∧ s.cfg.escThenSof = .abort ∧ s.cfg.escThenEsc = .abort := by
  decide

/-- Two symbols, the shortest frame that is delivered (program P6). -/
theorem witness_RxValidFrameIsDelivered :
    let s := rxAt .framing false 0x53#8 [0x10#8, 0x02#8]
    s.rxOut = none ∧ s.rx.mode = .framing ∧ s.rx.esc = false ∧ 1 < s.rx.acc.length ∧ s.rx.crc = 0x53#8 := by decide

/-- One symbol with the residue, and two symbols without it: one step to either side of the valid frame. -/
theorem witness_RxInvalidFrameIsDropped :
    (let s := rxAt .framing false 0x53#8 [0xff#8]
     s.rxOut = none ∧ s.rx.mode = .framing ∧ s.rx.esc = false ∧ s.rx.acc.length ≤ 1) ∧
    (let s := rxAt .framing false 0x1a#8 [0x42#8, 0x43#8]
     s.rxOut = none ∧ s.rx.mode = .framing ∧ s.rx.esc = false ∧ ¬ s.rx.acc.length ≤ 1 ∧ s.rx.crc ≠ 0x53#8) := by decide

theorem witness_RxDataIsFoldedAndAppended :
    ∀ cap ∈ [none, some 2, some 4097],
      let s := oneSymbol false cap
      s.rxOut = none ∧ s.rx.mode = .framing ∧ s.rx.esc = false ∧ s.cfg.accCap ≠ some s.rx.acc.length := by decide

theorem witness_RxOverflowDropsTheFrame :
    (let s := oneSymbol false (some 1)
     s.rxOut = none ∧ s.rx.mode = .framing ∧ s.cfg.accCap = some s.rx.acc.length ∧ s.rx.esc = false) ∧
    (let s := oneSymbol true (some 1)
     s.rxOut = none ∧ s.rx.mode = .framing ∧ s.cfg.accCap = some s.rx.acc.length ∧ s.rx.esc = true) := by decide

/-- With a capacity R4 allows: 4097 symbols collected, the next one overflows. -/
theorem witness_RxOverflow_legal_capacity :
    let s := withCfg ⟨some 4097, .restart, .stayPending⟩ (rxAt .framing false 0x8e#8 (List.replicate 4097 0x01#8))
    s.cfg.wf = true ∧ s.rxOut = none ∧ s.rx.mode = .framing ∧ s.cfg.accCap = some s.rx.acc.length ∧ s.rx.esc = false := by
  refine ⟨by decide, rfl, rfl, ?_, rfl⟩
  exact congrArg some (List.length_replicate ..).symm

theorem witness_HeldPayloadStopsTheDecoder :
    (holding [0x01#8] complete).rxOut = some [0x01#8] ∧ (holding [0x01#8] complete).turns = .rx :: [] ∧
    isRxByteRow .rxFramingEofValid = true ∧
    (holding [0x01#8] (offering .ack [] [] [] State.reset)).turns = .ack :: [] := by decide

theorem witness_RxRowsAreTheFirstMatch :
    complete.rxOut = none ∧ wellFormed .rxFramingEofValid = true ∧
    encode .rxFramingEofValid = .rxByte ⟨.framing, false, false, true⟩ 0xff#8 ∧
    (after (exec .rxFramingEofValid complete)).isSome = true := by decide

theorem witness_DropLeavesOnlyTheIdleState :
    isRxByteRow .rxFramingEscEof = true ∧ (oneSymbol true none).rxOut = none ∧
    (after (exec .rxFramingEscEof (oneSymbol true none))).map (fun t => t.rxDiag) = some (some .malformedEscape) ∧
    isRxByteRow .rxFramingSof = true ∧
    (after (exec .rxFramingSof (oneSymbol false none))).map (fun t => t.rxDiag) = some (some .restart) := by decide

theorem witness_CommandsAreAcceptedInTxIdle :
    State.reset.tx.phase = .txIdle ∧ (4096#13).toNat ≤ 4096 ∧ 4096 < (4097#13).toNat := by decide

theorem witness_OversizedCommandLeavesTheEncoder :
    let s := offering .cmd [] [0x4004#16] [0x01#8] State.reset
    s.turns = .cmd :: [] ∧ s.txCmd = 0x4004#16 :: [] ∧ s.tx.phase = .txIdle ∧
      (0x4004#16).extractLsb' 15 1 = 0#1 ∧ 4096 < ((0x4004#16).extractLsb' 2 13).toNat := by decide

theorem witness_TxEsc2EmitsThePendingCode :
    ∀ p ∈ [Phase.txData, .txCrc, .txEof], ∀ c ∈ [EscCode.x00, .xaa, .xff],
      (txAt p 0x00#8 0 (some c)).tx.phase ≠ .txIdle ∧ (txAt p 0x00#8 0 (some c)).tx.esc2 = some c := by decide

theorem witness_TxSofEmitsTheDelimiter :
    ∀ n ∈ [0, 1, 4096], (txAt .txSof 0x00#8 n none).tx.phase = .txSof ∧ (txAt .txSof 0x00#8 n none).tx.esc2 = none := by
  decide

theorem witness_TxDataEmitsOneSymbol :
    ∀ n ∈ [1, 2, 4096], (txAt .txData 0x00#8 n none).tx.phase = .txData ∧ (txAt .txData 0x00#8 n none).tx.esc2 = none := by
  decide

theorem witness_TxCrcEmitsTheChecksum :
    ∀ c ∈ [0x00#8, 0x55#8, 0xff#8, 0xd4#8],
      (txAt .txCrc c 0 none).tx.phase = .txCrc ∧ (txAt .txCrc c 0 none).tx.esc2 = none := by decide

theorem witness_TxEofEmitsTheDelimiter :
    (txAt .txEof 0xd4#8 0 none).tx.phase = .txEof ∧ (txAt .txEof 0xd4#8 0 none).tx.esc2 = none := by decide

theorem witness_TxCtlEmitsTheConstant :
    ∀ i ∈ [(0 : Fin 5), 4], (ctlAt .radio i).tx.phase = .txCtl ∧ (ctlAt .radio i).tx.esc2 = none := by decide

theorem witness_CrcGenReturnsTheGeneratedTable : 255 < 256 := by decide

theorem witness_CrcChkGivesTheResidue : crcRaw ([0x42#8, 0x43#8] ++ [0xe5#8]) = 0x53#8 := by decide +kernel

theorem witness_StuffRowsEmitThePairs :
    ∀ v ∈ [0x01#8, 0xa9#8, 0xab#8, 0xfe#8], v ≠ 0x00#8 ∧ v ≠ 0xaa#8 ∧ v ≠ 0xff#8 := by decide

theorem witness_EncodeReturnsTheFrame :
    4096 < (List.replicate 4097 0x01#8).length ∧ (List.replicate 4096 0x01#8).length ≤ 4096 ∧
    ([] : List Byte).length ≤ 4096 := by
  rw [List.length_replicate, List.length_replicate]
  decide

theorem witness_FunctionRowsAreFunctionsOfTheirOperands :
    ∀ i ∈ [Instr.txStuffOther 0x01#8, .encodeFrame [], .crcGen, .crcUpd 0x00#8 0x01#8, .ctlTelem],
      isFunctionRow i = true := by decide

theorem witness_CrcTableIsLinearAndBijective : tableEntry 0x0b#8 = tableEntry 0x0b#8 := rfl

theorem witness_CrcRealisationsAgree : 0 < 8 ∧ 7 < 8 := by decide

theorem witness_CrcSeesOneWrongSymbolButNoLeadingZeros :
    0x43#8 ≠ 0x42#8 ∧ crcRaw ([0x42#8] ++ 0x43#8 :: [0xe5#8]) = 0x53#8 := by decide

theorem witness_BodyHoldsNoDelimiter :
    frameBytes [0xaa#8] = [0x00#8] ++ [0xaa#8, 0xac#8, 0x5a#8] ++ [0xff#8] ∧
    [0xaa#8, 0xac#8, 0x5a#8] = [] ++ 0xaa#8 :: [0xac#8, 0x5a#8] := by decide

/-- `SendPayload(4096)` and everything the encoder needs to finish it. -/
def longSend : State :=
  { State.reset with
    txPl := List.replicate 4096 0x01#8 ++ [0x07#8]
    txCmd := [0x4000#16]
    turns := .cmd :: (List.replicate (frameBytes (List.replicate 4096 0x01#8)).length .tx ++ [.ack]) }

theorem witness_StreamedFrameIsEncode :
    longSend.tx.phase = .txIdle ∧ (List.replicate 4096 0x01#8).length ≤ 4096 ∧
    longSend.txPl = List.replicate 4096 0x01#8 ++ [0x07#8] ∧ longSend.txCmd = 0x4000#16 :: [] ∧
    (0x4000#16).extractLsb' 15 1 = 0#1 ∧
    ((0x4000#16).extractLsb' 2 13).toNat = (List.replicate 4096 0x01#8).length ∧
    longSend.turns = .cmd :: (List.replicate (frameBytes (List.replicate 4096 0x01#8)).length .tx ++ [.ack]) := by
  refine ⟨rfl, (List.length_replicate ..).le, rfl, rfl, by decide, ?_, rfl⟩
  rw [List.length_replicate]
  decide

theorem witness_ControlFrameIsEmittedWhole :
    let s := { State.reset with txCmd := [0xfffe#16], turns := .cmd :: (List.replicate 5 Turn.tx ++ []) }
    s.tx.phase = .txIdle ∧ s.tx.esc2 = none ∧ s.txCmd = 0xfffe#16 :: [] ∧ (0xfffe#16).extractLsb' 15 1 = 1#1 ∧
      (0xfffe#16).extractLsb' 0 2 = Ctl.telem.code ∧ s.turns = .cmd :: (List.replicate 5 Turn.tx ++ []) := by decide

theorem witness_StepsOverAStreamAreTheFold :
    let s := { State.reset with rxIn := [0x00#8, 0xff#8] ++ [0x37#8], turns := listenTurns 2 ++ [Turn.rst] }
    s.rxOut = none ∧ s.rxIn = [0x00#8, 0xff#8] ++ [0x37#8] ∧ s.turns = listenTurns [0x00#8, 0xff#8].length ++ [Turn.rst] := by
  decide

/-- Lengths 1 and 4096; from Idle under any parameters, and from an open escape under restart. -/
theorem witness_EncodedPayloadIsDelivered :
    (let s := withCfg ⟨some 4097, .abort, .abort⟩ State.reset
     s.cfg.wf = true ∧ s.rxOut = none ∧ s.rx.mode = .idle) ∧
    (let s := oneSymbol true (some 4097)
     s.cfg.wf = true ∧ s.rxOut = none ∧ s.rx.mode ≠ .idle ∧ s.cfg.escThenSof = .restart) ∧
    1 ≤ [0x01#8].length ∧ [0x01#8].length ≤ 4096 := by decide

theorem witness_EncodedPayload_longest :
    1 ≤ (List.replicate 4096 0x01#8).length ∧ (List.replicate 4096 0x01#8).length ≤ 4096 := by
  rw [List.length_replicate]
  decide

theorem witness_GarbageDoesNotCorruptTheNextFrame :
    (Config.mk (some 4097) .restart .abort).wf = true ∧ (Config.mk none .abort .stayPending).wf = true ∧
    1 ≤ [0x01#8].length ∧ [0x01#8].length ≤ 4096 := by decide

theorem witness_ReceiverHasNoLengthLimit :
    [0x01#8] ≠ [] ∧ ∀ n, (Config.mk (some 2) .restart .stayPending).accCap = some n → [0x01#8].length + 1 ≤ n := by
  refine ⟨by decide, fun n h => ?_⟩
  have : 2 = n := by simpa using h
  subst this
  decide

theorem witness_EmptyPayloadIsDropped :
    (let s := withCfg ⟨some 4097, .abort, .abort⟩ State.reset
     s.cfg.wf = true ∧ s.rxOut = none ∧ s.rx.mode = .idle) ∧
    (let s := oneSymbol true none
     s.cfg.wf = true ∧ s.rxOut = none ∧ s.cfg.escThenSof = .restart) := by decide

theorem witness_ControlFramesAreNeverDelivered :
    (State.reset.rxOut = none ∧ State.reset.rx.mode = .idle) ∧
    ((oneSymbol true none).rxOut = none ∧ (oneSymbol true none).cfg.escThenSof = .restart) := by decide

/-- Vector 3.8: the first payload symbol, and the checksum symbol. -/
theorem witness_WrongUnstuffedSymbolIsDropped :
    State.reset.cfg.wf = true ∧ State.reset.rxOut = none ∧ State.reset.rx.mode = .idle ∧
    [0x12#8, 0x34#8, 0x56#8, 0x78#8].length ≤ 4096 ∧
    [0x12#8, 0x34#8, 0x56#8, 0x78#8] ++ [computeCrc [0x12#8, 0x34#8, 0x56#8, 0x78#8]] =
      [] ++ 0x12#8 :: [0x34#8, 0x56#8, 0x78#8, 0x6d#8] ∧
    [0x12#8, 0x34#8, 0x56#8, 0x78#8] ++ [computeCrc [0x12#8, 0x34#8, 0x56#8, 0x78#8]] =
      [0x12#8, 0x34#8, 0x56#8, 0x78#8] ++ 0x6d#8 :: [] ∧
    isReservedValue 0x12#8 = false ∧ isReservedValue 0x13#8 = false ∧ 0x12#8 ≠ 0x13#8 ∧
    isReservedValue 0x6d#8 = false ∧ isReservedValue 0x6c#8 = false ∧ 0x6d#8 ≠ 0x6c#8 := by decide +kernel

theorem witness_ResetFromAnyState : (holding [0x01#8] (offering .rst [] [] [] lastByte)).turns = .rst :: [] := by decide

theorem witness_InvariantHoldsAtReset :
    (Config.mk (some 4097) .abort .abort).wf = true ∧ (Config.mk none .restart .stayPending).wf = true := by decide

/-- Decoder, encoder, and a payload on offer. -/
theorem witness_StepKeepsTheInvariant :
    (Inv complete ∧ ∃ t, step complete = .next t) ∧ (Inv lastByte ∧ ∃ t, step lastByte = .next t) ∧
    (Inv (holding [0x01#8] (offering .ack [] [] [] State.reset)) ∧
      ∃ t, step (holding [0x01#8] (offering .ack [] [] [] State.reset)) = .next t) :=
  ⟨⟨by decide, step_next_of_answers (by decide)⟩, ⟨by decide, step_next_of_answers (by decide)⟩,
    ⟨by decide, step_next_of_answers (by decide)⟩⟩

theorem witness_ParametersNeverChange :
    (∃ t, step complete = .next t) ∧ (after (exec (.crcRaw []) complete)).isSome = true :=
  ⟨step_next_of_answers (by decide), by decide⟩

theorem witness_DecoderAndEncoderAreIndependent :
    (lastByte.turns = .tx :: [] ∧ isTxTurn .tx = true ∧ ∃ t, step lastByte = .next t) ∧
    (complete.turns = .rx :: [] ∧ isRxTurn .rx = true ∧ ∃ t, step complete = .next t) :=
  ⟨⟨rfl, rfl, step_next_of_answers (by decide)⟩, ⟨rfl, rfl, step_next_of_answers (by decide)⟩⟩

theorem witness_OnlyCheckedPayloadsAreDelivered : Inv complete ∧ ∃ t, step complete = .next t :=
  ⟨by decide, step_next_of_answers (by decide)⟩

theorem witness_WireGrowsByAtMostOneByte : lastByte.tx.phase ≠ .txIdle ∧ ∃ t, step lastByte = .next t :=
  ⟨by decide, step_next_of_answers (by decide)⟩


end Sys2Proof.Tests
end

