-- ==== Sys2Proof/Proofs/Scope.lean ====
section
/-! PROOFS. The statements about the block's scope: a step runs the row its transfer decodes to (O3), the parameters never change
(O56), a step emits at most one byte and takes no command while a frame is open (O60). Each goes through the effect of a row
(`RxEffect`, `TxEffect`) and of a step (`StepEffect`). -/

namespace Sys2Proof.Machine

/-! ### What the rows of each unit leave unchanged (R50) -/

/-- A decoder row writes the decoder's registers and outputs only. -/
theorem RxEffect.frame {s t : State} (h : RxEffect s t) :
    t = { s with rx := t.rx, rxOut := t.rxOut, rxDiag := t.rxDiag, delivered := t.delivered } := by
  cases h <;> rfl

/-- An encoder row writes the encoder's registers and outputs only. -/
theorem TxEffect.frame {s t : State} (h : TxEffect s t) :
    t = { s with tx := t.tx, txCmdStatus := t.txCmdStatus, txOut := t.txOut } := by
  cases h <;> rfl

theorem RxEffect.cfg_eq {s t : State} (h : RxEffect s t) : t.cfg = s.cfg := by rw [h.frame]
theorem RxEffect.txOut_eq {s t : State} (h : RxEffect s t) : t.txOut = s.txOut := by rw [h.frame]
theorem RxEffect.txCmd_eq {s t : State} (h : RxEffect s t) : t.txCmd = s.txCmd := by rw [h.frame]
theorem TxEffect.cfg_eq {s t : State} (h : TxEffect s t) : t.cfg = s.cfg := by rw [h.frame]
theorem TxEffect.txCmd_eq {s t : State} (h : TxEffect s t) : t.txCmd = s.txCmd := by rw [h.frame]

/-! ### The parameters -/

theorem exec_cfg_eq {i : Instr} {s t : State} (h : exec i s = .next t) : t.cfg = s.cfg := by
  rcases row_kind i with hi | hi | hi
  · exact (exec_rx_effect hi h).cfg_eq
  · exact (exec_tx_effect hi h).cfg_eq
  · obtain ⟨r, hr⟩ := exec_function_row s hi
    rw [hr] at h
    injection h with h
    subst h
    rfl

theorem step_cfg_eq {s t : State} (h : step s = .next t) : t.cfg = s.cfg := by
  cases step_effect h with
  | rx _ _ _ _ _ _ _ he => exact he.cfg_eq
  | cmd _ _ _ _ _ _ _ he => exact he.cfg_eq
  | tx _ _ _ _ _ he => exact he.cfg_eq
  | unscheduled | wait | ack | rst | call => rfl

/-- Settles O56: by kind of row for an instruction, by kind of transfer for a step. -/
theorem parametersNeverChange : Obligations.ParametersNeverChange :=
  ⟨rfl, fun _ _ => step_cfg_eq, fun _ _ _ => exec_cfg_eq⟩

/-! ### The wire and the commands -/

/-- An encoder row emits nothing or one byte: only the two commands, and a wait, emit nothing. -/
theorem TxEffect.txOut_eq_or_append {s t : State} (h : TxEffect s t) :
    t.txOut = s.txOut ∨ ∃ b, t.txOut = s.txOut ++ [b] := by
  cases h with
  | waits | tooLarge | payload | control => exact .inl rfl
  | code | sof | data | crc | eof | ctl => exact .inr ⟨_, rfl⟩

theorem step_txOut_eq_or_append {s t : State} (h : step s = .next t) :
    t.txOut = s.txOut ∨ ∃ b, t.txOut = s.txOut ++ [b] := by
  cases step_effect h with
  | rx _ _ _ _ _ _ _ he => exact .inl he.txOut_eq
  | cmd _ _ _ _ _ _ _ he => exact he.txOut_eq_or_append
  | tx _ _ _ _ _ he => exact he.txOut_eq_or_append
  | unscheduled | wait | ack | rst | call => exact .inl rfl

/-- A command is taken in TxIdle only (R29). -/
theorem step_txCmd_eq {s t : State} (h : step s = .next t) (hp : s.tx.phase ≠ .txIdle) : t.txCmd = s.txCmd := by
  cases step_effect h with
  | rx _ _ _ _ _ _ _ he => exact he.txCmd_eq
  | cmd _ _ _ _ _ _ hidle => exact absurd hidle hp
  | tx _ _ _ _ _ he => exact he.txCmd_eq
  | unscheduled | wait | ack | rst | call => rfl

/-- Settles O60: the wire by kind of transfer; a command transfer needs TxIdle. -/
theorem wireGrowsByAtMostOneByte : Obligations.WireGrowsByAtMostOneByte :=
  fun _ _ h => ⟨step_txOut_eq_or_append h, step_txCmd_eq h⟩

/-! ### The decoded instruction -/

theorem txPlReady_iff (s : State) : s.txPlReady = true ↔ s.tx.phase = .txData ∧ s.tx.esc2 = none := by
  simp [State.txPlReady]

/-- An enabled emit step runs with the payload byte taken exactly when the encoder is ready for one (R30). -/
theorem step_tx_of_decode {s : State} {ts : List Turn} {i : Instr} (ht : s.turns = .tx :: ts)
    (hd : decodeTxStep s.txView = .ok i) :
    step s = exec i { s with
      turns := ts
      txPl := if s.tx.phase = .txData ∧ s.tx.esc2 = none then s.txPl.tail else s.txPl } := by
  simp only [step_tx ht, hd, txPlReady_iff]
  split <;> rfl

/-- Settles O3: one equation of `step` per fetching turn. -/
theorem stepRunsTheDecodedInstruction : Obligations.StepRunsTheDecodedInstruction := by
  refine ⟨?rx, ?cmd, ?tx, ?call⟩
  case rx =>
    intro s ts b bs i ht hb hr hd
    have hi : decodeRx s.rxView b = i := Except.ok.inj hd
    rw [step_rx_taken ht hb hr, hi]
  case cmd =>
    intro s ts w ws i ht hw hp hd
    have hi : decodeCmd w = .ok i := hd
    rw [step_cmd_taken ht hw hp, hi]
  case tx => exact fun _ _ _ => step_tx_of_decode
  case call =>
    intro s ts f i ht hd
    have hi : decodeCall f = .ok i := hd
    rw [step_call ht, hi]

end Sys2Proof.Machine
end

/-! PROOFS. The statements about the state: the opcode table's encoding (O1, O2), waiting and the held payload (O4, O16), reset and
the invariant (O52, O54, O55), and what the units do not read of each other and of the diagnostic (O57, O59). -/

namespace Sys2Proof.Machine

/-! ### Decoding what was encoded -/

/-- The rows with an operand by their own lemma, the others by running the decoder. -/
theorem decode_encode (i : Instr) : Laws.RoundTrip.Statement i := by
  cases i with
  | rxIdleDat d => exact Laws.RoundTrip.rxIdleDat d
  | rxFramingDat d => exact Laws.RoundTrip.rxFramingDat d
  | rxFramingOverflow d => exact Laws.RoundTrip.rxFramingOverflow d
  | rxFramingEscDat d => exact Laws.RoundTrip.rxFramingEscDat d
  | txStuffOther v => exact Laws.RoundTrip.txStuffOther v
  | txAccept len x => exact Laws.RoundTrip.txAccept len x
  | sendControl x k => exact Laws.RoundTrip.sendControl x k
  | _ => exact fun _ => rfl

/-! ### Encoding what was decoded -/

/-- A wire byte is one of the six fixed values of R66 or a data byte. -/
inductive WireByte : Byte → Prop where
  | sof : WireByte 0x00#8
  | esc : WireByte 0xaa#8
  | x00 : WireByte 0xab#8
  | xaa : WireByte 0xac#8
  | xff : WireByte 0xad#8
  | eof : WireByte 0xff#8
  | dat {b : Byte} (h : (!isFixedRxValue b) = true) : WireByte b

theorem wireByte (b : Byte) : WireByte b := by
  cases h : isFixedRxValue b with
  | false => exact .dat (by rw [h]; rfl)
  | true =>
    simp only [isFixedRxValue, Bool.or_eq_true, beq_iff_eq] at h
    rcases h with ((((rfl | rfl) | rfl) | rfl) | rfl) | rfl
    · exact .sof
    · exact .esc
    · exact .x00
    · exact .xaa
    · exact .xff
    · exact .eof

/-- The three reserved values are among the six fixed ones. -/
theorem not_isReservedValue_of_not_isFixedRxValue {b : Byte} (h : (!isFixedRxValue b) = true) :
    (!isReservedValue b) = true := by
  simp only [isFixedRxValue, isReservedValue, Bool.not_eq_true', Bool.or_eq_false_iff] at h ⊢
  obtain ⟨⟨⟨⟨⟨h0, ha⟩, -⟩, -⟩, -⟩, hf⟩ := h
  exact ⟨⟨h0, ha⟩, hf⟩

/-- An instruction is well formed and its encoding carries the given bits. -/
def Carries (i : Instr) (bits : List Byte) : Prop := wellFormed i = true ∧ (encode i).bits = bits

theorem decodeRx_idle_carries (esc full valid : Bool) (b : Byte) : Carries (decodeRx ⟨.idle, esc, full, valid⟩ b) [b] := by
  cases wireByte b with
  | sof | esc | x00 | xaa | xff | eof => exact ⟨rfl, rfl⟩
  | dat h =>
    have hi : decodeRx ⟨.idle, esc, full, valid⟩ b = .rxIdleDat b := by
      simp only [decodeRx, Laws.RoundTrip.classOf_dat h]
    rw [hi]
    exact ⟨h, rfl⟩

theorem decodeRx_framing_carries (full valid : Bool) (b : Byte) :
    Carries (decodeRx ⟨.framing, false, full, valid⟩ b) [b] := by
  cases wireByte b with
  | sof | esc => exact ⟨rfl, rfl⟩
  | x00 | xaa | xff => cases full <;> exact ⟨rfl, rfl⟩
  | eof => cases valid <;> exact ⟨rfl, rfl⟩
  | dat h =>
    have hi : decodeRx ⟨.framing, false, full, valid⟩ b = if full then .rxFramingOverflow b else .rxFramingDat b := by
      simp only [decodeRx, Laws.RoundTrip.classOf_dat h]
    rw [hi]
    cases full with
    | true => exact ⟨not_isReservedValue_of_not_isFixedRxValue h, rfl⟩
    | false => exact ⟨h, rfl⟩

theorem decodeRx_framingEsc_carries (full valid : Bool) (b : Byte) :
    Carries (decodeRx ⟨.framing, true, full, valid⟩ b) [b] := by
  cases wireByte b with
  | sof | esc | x00 | xaa | xff | eof => exact ⟨rfl, rfl⟩
  | dat h =>
    have hi : decodeRx ⟨.framing, true, full, valid⟩ b = .rxFramingEscDat b := by
      simp only [decodeRx, Laws.RoundTrip.classOf_dat h]
    rw [hi]
    exact ⟨h, rfl⟩

theorem decodeRx_carries (v : RxView) (b : Byte) : Carries (decodeRx v b) [b] := by
  obtain ⟨_ | _, esc, full, valid⟩ := v
  · exact decodeRx_idle_carries esc full valid b
  · cases esc with
    | false => exact decodeRx_framing_carries full valid b
    | true => exact decodeRx_framingEsc_carries full valid b

/-- A symbol has a code exactly when it is the symbol of that code (R64, R65). -/
theorem escCodeOf_eq_some_iff {v : Byte} {c : EscCode} : escCodeOf v = some c ↔ v = c.symbol := by
  constructor
  · intro h
    unfold escCodeOf at h
    split at h
    · next hv => cases h; exact hv
    split at h
    · next hv => cases h; exact hv
    split at h
    · next hv => cases h; exact hv
    · cases h
  · rintro rfl
    cases c <;> rfl

theorem escCodeOf_eq_none_iff {v : Byte} : escCodeOf v = none ↔ (!isReservedValue v) = true := by
  refine ⟨fun h => ?_, Laws.RoundTrip.escCodeOf_other⟩
  have hne (c : EscCode) : v ≠ c.symbol := fun hv => by simp [escCodeOf_eq_some_iff.2 hv] at h
  simpa [isReservedValue, EscCode.symbol] using ⟨⟨hne .x00, hne .xaa⟩, hne .xff⟩

theorem decodeSym_carries (v : Byte) : Carries (decodeSym v) [v] := by
  cases hc : escCodeOf v with
  | none =>
    have hi : decodeSym v = .txStuffOther v := by simp only [decodeSym, hc]
    rw [hi]
    exact ⟨escCodeOf_eq_none_iff.1 hc, rfl⟩
  | some c =>
    obtain rfl := escCodeOf_eq_some_iff.1 hc
    cases c <;> exact ⟨rfl, rfl⟩

/-- A command pattern is made of its three fields. -/
theorem cmdWord_extract (w : BitVec 16) : cmdWord (w.extractLsb' 15 1) (w.extractLsb' 2 13) (w.extractLsb' 0 2) = w := by
  apply BitVec.eq_of_getLsbD_eq
  intro i hi
  rw [Laws.RoundTrip.cmdWord_getLsbD]
  simp only [BitVec.getLsbD_extractLsb']
  split
  · next h2 => simp [h2]
  split
  · next h2 h13 =>
    have : 2 + (i - 2) = i := by omega
    simp [h13, this]
  · next h2 h13 =>
    obtain rfl : i = 15 := by omega
    simp

theorem encode_txAccept_fields {w : BitVec 16} (hkind : w.extractLsb' 15 1 = 0#1) :
    encode (.txAccept (w.extractLsb' 2 13) (w.extractLsb' 0 2)) = .txCmd w := by
  simp only [encode]
  rw [← hkind, cmdWord_extract]

theorem encode_sendControl_fields {w : BitVec 16} {k : Ctl} (hkind : w.extractLsb' 15 1 ≠ 0#1)
    (hctl : w.extractLsb' 0 2 = k.code) : encode (.sendControl (w.extractLsb' 2 13) k) = .txCmd w := by
  have hone : ∀ b : BitVec 1, b ≠ 0#1 → b = 1#1 := by decide
  simp only [encode]
  rw [← hone _ hkind, ← hctl, cmdWord_extract]

theorem encode_of_decodeCmd {w : BitVec 16} {i : Instr} (h : decodeCmd w = .ok i) : encode i = .txCmd w := by
  unfold decodeCmd at h
  split at h
  · next hkind => cases h; exact encode_txAccept_fields hkind
  next hkind =>
  split at h
  · next hctl => cases h; exact encode_sendControl_fields hkind hctl
  split at h
  · next hctl => cases h; exact encode_sendControl_fields hkind hctl
  split at h
  · next hctl => cases h; exact encode_sendControl_fields hkind hctl
  · cases h

/-- The operands a row restricts are wire bytes and symbols. -/
theorem wellFormed_of_isTxRow {i : Instr} (h : isTxRow i = true) : wellFormed i = true := by
  cases i with
  | rxIdleDat | rxFramingDat | rxFramingOverflow | rxFramingEscDat | txStuffOther => cases h
  | _ => rfl

theorem decodeCtlFrame_carries {bs : List Byte} {i : Instr} (h : decodeCtlFrame bs = .ok i) : Carries i bs := by
  unfold decodeCtlFrame at h
  split at h
  · next hb => cases h; exact ⟨rfl, hb.symm⟩
  split at h
  · next hb => cases h; exact ⟨rfl, hb.symm⟩
  split at h
  · next hb => cases h; exact ⟨rfl, hb.symm⟩
  · cases h

theorem encode_bits_of_decodeTxStep {v : TxView} {i : Instr} (h : decodeTxStep v = .ok i) : (encode i).bits = [] := by
  obtain ⟨phase, pending, offered⟩ := v
  cases pending with
  | true =>
    cases phase with
    | txIdle => cases h
    | _ => cases h; rfl
  | false =>
    cases phase with
    | txIdle => cases h
    | txData =>
      cases offered with
      | none => cases h
      | some b => cases h; rfl
    | _ => cases h; rfl

theorem decodeCall_carries {f : FunCall} {i : Instr} (h : decodeCall f = .ok i) : Carries i (Code.function f).bits := by
  cases f with
  | stuff v => cases h; exact decodeSym_carries v
  | frame bs => exact decodeCtlFrame_carries h
  | encode | crcGen | crcUpd | crcRaw | crcFin | crcChk => cases h; exact ⟨rfl, rfl⟩

/-- One case per format of the opcode table. -/
theorem decode_carries {c : Code} {i : Instr} (h : decode c = .ok i) : Carries i c.bits := by
  cases c with
  | rxByte v b => cases h; exact decodeRx_carries v b
  | txSym v => cases h; exact decodeSym_carries v
  | txCmd w => exact ⟨wellFormed_of_isTxRow (decodeCmd_kind h), congrArg Code.bits (encode_of_decodeCmd h)⟩
  | txStep v => exact ⟨wellFormed_of_isTxRow (decodeTxStep_kind h), encode_bits_of_decodeTxStep h⟩
  | ctlFrame bs => exact decodeCtlFrame_carries h
  | function f => exact decodeCall_carries h

/-- Settles O1: one way row by row, the other way format by format. -/
theorem decodeAndEncodeAgree : Obligations.DecodeAndEncodeAgree :=
  ⟨decode_encode, fun _ _ => decode_carries⟩

/-- Settles O2: the decoder runs on each word. -/
theorem tableWordsDecodeToTheirRows : Obligations.TableWordsDecodeToTheirRows :=
  ⟨rfl, rfl, rfl, rfl, rfl, rfl, rfl, rfl, rfl, rfl, rfl, rfl⟩

/-! ### The invariant -/

theorem rxInv_of_canonicalIdle {s : State} (h : s.rx = Rx.canonicalIdle) : RxInv s := by
  refine ⟨fun _ => h, fun hm => ?_, ?_⟩
  · simp [h] at hm
  · simp [h]

theorem rxInv_of_fresh {s : State} (h : s.rx = Rx.fresh) : RxInv s := by
  refine ⟨fun hm => ?_, fun _ => ?_, ?_⟩
  · simp [h] at hm
  · rw [h]; rfl
  · simp [h]

theorem holdInv_of_none {s : State} (h : s.rxOut = none) : HoldInv s := by
  simp [HoldInv, h]

theorem txInv_of_reset {s : State} (h : s.tx = Tx.reset) : TxInv s := by
  simp [TxInv, h, Tx.reset]

theorem inv_of_reset {s : State} (hcfg : s.cfg.wf = true) (hrx : s.rx = Rx.reset) (htx : s.tx = Tx.reset)
    (hout : s.rxOut = none) : Inv s :=
  ⟨hcfg, rxInv_of_canonicalIdle hrx, txInv_of_reset htx, holdInv_of_none hout⟩

/-- Settles O54: the reset values meet each part, whatever the parameters. -/
theorem invariantHoldsAtReset : Obligations.InvariantHoldsAtReset :=
  ⟨inv_of_reset rfl rfl rfl rfl, fun _ hc => inv_of_reset hc rfl rfl rfl⟩

/-- Settles O52: the reset state is a literal. -/
theorem resetHasTheListedValues : Obligations.ResetHasTheListedValues :=
  ⟨rfl, rfl, rfl, rfl, rfl, rfl, rfl, rfl, rfl, rfl, rfl, rfl⟩

/-- R147: a frame that passes has a byte before its checksum. -/
theorem dropLast_ne_nil_of_frameValid {s : State} (h : s.frameValid = true) : s.rx.acc.dropLast ≠ [] := by
  simp only [State.frameValid, Bool.and_eq_true, decide_eq_true_eq] at h
  have hlen : 2 ≤ s.rx.acc.length := h.1
  apply List.ne_nil_of_length_pos
  rw [List.length_dropLast]
  omega

theorem RxEffect.keeps_rxInv {s t : State} (h : RxEffect s t) (hi : RxInv s) : RxInv t := by
  obtain ⟨hidle, hcrc, hmem⟩ := hi
  cases h with
  | held => exact ⟨hidle, hcrc, hmem⟩
  | fresh => exact rxInv_of_fresh rfl
  | ignore => exact ⟨hidle, hcrc, hmem⟩
  | escape _ hm => exact ⟨fun he => by simp [hm] at he, hcrc, hmem⟩
  | append v _ hm hf =>
    refine ⟨fun he => by simp [hm] at he, fun _ => ?_, ?_⟩
    · simp [hcrc hm]
    · exact Memory.wf_append v hmem fun e => by simp [(accFull_iff s).2 e] at hf
  | deliver => exact rxInv_of_canonicalIdle rfl
  | dropped c _ hc => exact rxInv_of_canonicalIdle (s.drop_rx hc)

/-- Only a delivery puts a payload on offer, and it leaves the decoder idle. -/
theorem RxEffect.keeps_holdInv {s t : State} (h : RxEffect s t) (hi : HoldInv s) : HoldInv t := by
  cases h with
  | held => exact hi
  | fresh _ hr | ignore hr | escape hr | append _ hr | dropped _ hr => exact holdInv_of_none hr
  | deliver _ _ hv =>
    intro p hp
    cases hp
    exact ⟨rfl, dropLast_ne_nil_of_frameValid hv, by simp⟩

/-- Phase by phase; a code is pending only between a reserved symbol and the next emit step, in TxData, TxCrc and TxEof. -/
theorem TxEffect.keeps_txInv {s t : State} (h : TxEffect s t) (hi : TxInv s) : TxInv t := by
  obtain ⟨hmax, hdata, hrem, hesc, hidx⟩ := hi
  cases h with
  | waits | tooLarge => exact ⟨hmax, hdata, hrem, hesc, hidx⟩
  | payload n hp hn => exact ⟨hn, by simp, by simp, by simp, fun _ => hidx (by simp [hp])⟩
  | control k hp =>
    exact ⟨hmax, by simp, fun _ _ => hrem (by simp [hp]) (by simp [hp]), fun _ => hesc (.inl hp), by simp⟩
  | code c hp hc => exact ⟨hmax, hdata, hrem, fun _ => rfl, hidx⟩
  | sof hp he =>
    have hi0 : s.tx.idx = 0 := hidx (by simp [hp])
    by_cases hr : 0 < s.tx.rem
    · exact ⟨hmax, fun _ => hr, by simp [hr], fun _ => he, fun _ => hi0⟩
    · exact ⟨hmax, by simp [hr], fun _ _ => Nat.eq_zero_of_not_pos hr, fun _ => he, fun _ => hi0⟩
  | data b hp he =>
    have hi0 : s.tx.idx = 0 := hidx (by simp [hp])
    have hmax' : s.tx.rem - 1 ≤ maxPayload := (Nat.sub_le _ _).trans hmax
    by_cases hr : s.tx.rem - 1 = 0
    · exact ⟨hmax', by simp [hr], fun _ _ => hr, by simp [hr], fun _ => hi0⟩
    · exact ⟨hmax', fun _ => Nat.pos_of_ne_zero hr, by simp [hr], by simp [hr], fun _ => hi0⟩
  | crc hp he => exact ⟨hmax, by simp, fun _ _ => hrem (by simp [hp]) (by simp [hp]), by simp, fun _ => hidx (by simp [hp])⟩
  | eof hp he =>
    exact ⟨hmax, by simp, fun _ _ => hrem (by simp [hp]) (by simp [hp]), fun _ => he, fun _ => hidx (by simp [hp])⟩
  | ctl hp he =>
    have hr0 : s.tx.rem = 0 := hrem (by simp [hp]) (by simp [hp])
    by_cases h4 : s.tx.idx = 4
    · simp [TxInv, h4, hr0, he]
    · simp [TxInv, h4, hr0, he, hp]

theorem step_keeps_inv {s t : State} (hi : Inv s) (h : step s = .next t) : Inv t := by
  obtain ⟨hwf, hrx, htx, hhold⟩ := hi
  have hcfg : t.cfg.wf = true := by rw [step_cfg_eq h]; exact hwf
  cases step_effect h with
  | unscheduled | wait | call => exact ⟨hcfg, hrx, htx, hhold⟩
  | ack => exact ⟨hcfg, hrx, htx, holdInv_of_none rfl⟩
  | rst => exact inv_of_reset hcfg rfl rfl rfl
  | rx ts b bs t _ _ _ he =>
    have htx' : TxInv t := by rw [he.frame]; exact htx
    exact ⟨hcfg, he.keeps_rxInv hrx, htx', he.keeps_holdInv hhold⟩
  | cmd ts w ws t _ _ _ he =>
    have hrx' : RxInv t := by rw [he.frame]; exact hrx
    have hhold' : HoldInv t := by rw [he.frame]; exact hhold
    exact ⟨hcfg, hrx', he.keeps_txInv htx, hhold'⟩
  | tx ts pl t _ _ he =>
    have hrx' : RxInv t := by rw [he.frame]; exact hrx
    have hhold' : HoldInv t := by rw [he.frame]; exact hhold
    exact ⟨hcfg, hrx', he.keeps_txInv htx, hhold'⟩

/-- Settles O55: by kind of transfer; each unit's row keeps its own part and leaves the other's. -/
theorem stepKeepsTheInvariant : Obligations.StepKeepsTheInvariant :=
  fun _ _ => step_keeps_inv

/-! ### Waiting -/

theorem exec_command_busy {s : State} (h : s.tx.phase ≠ .txIdle) :
    (∀ len x, exec (.txAccept len x) s = .next s) ∧ ∀ x k, exec (.sendControl x k) s = .next s := by
  have hr : s.txCmdReady = false := by simp [State.txCmdReady, h]
  simp [exec, execTxAccept, execSendControl, hr]

/-- No emit step is enabled in TxIdle, nor in TxData without a payload byte (R119, R126). -/
theorem decodeTxStep_noStep {s : State} (h : s.tx.phase = .txIdle ∨ (s.tx.phase = .txData ∧ s.tx.esc2 = none ∧ s.txPl = [])) :
    decodeTxStep s.txView = .error .noStep := by
  rcases h with hp | ⟨hp, he, hpl⟩
  · simp [decodeTxStep, State.txView, hp]
  · simp [decodeTxStep, State.txView, hp, he, hpl]

/-- Settles O4: the waiting case of each turn's equation. -/
theorem waitingChangesNothingElse : Obligations.WaitingChangesNothingElse := by
  refine ⟨fun _ => step_no_turn, fun _ _ => step_rx_waits, fun _ _ => step_cmd_waits, ?tx, fun _ => exec_command_busy⟩
  case tx =>
    intro s ts ht hwait
    rw [step_tx ht, decodeTxStep_noStep hwait]

/-! ### What a decoder row reads -/

/-- The encoder's registers changed by `τ`. -/
def State.mapTx (τ : Tx → Tx) (s : State) : State := { s with tx := τ s.tx }

/-- The encoder's registers changed by `τ`, and the diagnostic replaced. -/
def State.mapTxDiag (τ : Tx → Tx) (d : Option Drop) (s : State) : State := { s.mapTx τ with rxDiag := d }

/-- Row `i` waits while a payload is held and else fires `after` where `selected`; neither looks at the encoder's registers or at
the diagnostic, and `after` writes the diagnostic afresh. -/
structure RxRowForm (i : Instr) (selected : State → Bool) (after : State → State) : Prop where
  exec_eq (s : State) : exec i s = s.rxRow (selected s) (after s)
  selected_eq (τ : Tx → Tx) (d : Option Drop) (s : State) : selected (s.mapTxDiag τ d) = selected s
  after_eq (τ : Tx → Tx) (d : Option Drop) (s : State) : after (s.mapTxDiag τ d) = (after s).mapTx τ

theorem restartFrame_mapTxDiag (τ : Tx → Tx) (d : Option Drop) (s : State) :
    (s.mapTxDiag τ d).restartFrame = s.restartFrame.mapTx τ := by
  rw [restartFrame_eq, restartFrame_eq]
  rfl

theorem discardFrame_mapTxDiag (τ : Tx → Tx) (d : Option Drop) (s : State) :
    (s.mapTxDiag τ d).discardFrame = s.discardFrame.mapTx τ := by
  rw [discardFrame_eq, discardFrame_eq]
  rfl

theorem takeData_mapTxDiag (v : Byte) (τ : Tx → Tx) (d : Option Drop) (s : State) :
    (s.mapTxDiag τ d).takeData v = (s.takeData v).mapTx τ := by
  have hfull : (s.mapTxDiag τ d).accFull = s.accFull := rfl
  unfold State.takeData
  rw [hfull]
  split <;> rfl

theorem takeEscaped_mapTxDiag (c : EscCode) (τ : Tx → Tx) (d : Option Drop) (s : State) :
    (s.mapTxDiag τ d).takeEscaped c = (s.takeEscaped c).mapTx τ := by
  have hfull : (s.mapTxDiag τ d).accFull = s.accFull := rfl
  unfold State.takeEscaped
  rw [hfull]
  split <;> rfl

theorem exists_rxRowForm {i : Instr} (hi : isRxByteRow i = true) : ∃ selected after, RxRowForm i selected after := by
  cases i with
  | rxIdleSof | rxIdleEsc | rxIdleX00 | rxIdleXaa | rxIdleXff | rxIdleEof | rxIdleDat | rxFramingEsc | rxFramingEofValid
  | rxFramingOverflow | rxFramingEscEof | rxFramingEscDat => exact ⟨_, _, fun _ => rfl, fun _ _ _ => rfl, fun _ _ _ => rfl⟩
  | rxFramingSof => exact ⟨_, _, fun _ => rfl, fun _ _ _ => rfl, restartFrame_mapTxDiag⟩
  | rxFramingX00 | rxFramingXaa | rxFramingXff | rxFramingDat =>
    exact ⟨_, _, fun _ => rfl, fun _ _ _ => rfl, takeData_mapTxDiag _⟩
  | rxFramingEofInvalid => exact ⟨_, _, fun _ => rfl, fun _ _ _ => rfl, discardFrame_mapTxDiag⟩
  | rxFramingEscX00 | rxFramingEscXaa | rxFramingEscXff =>
    exact ⟨_, _, fun _ => rfl, fun _ _ _ => rfl, takeEscaped_mapTxDiag _⟩
  | rxFramingEscSof =>
    refine ⟨_, _, fun _ => rfl, fun _ _ _ => rfl, fun τ d s => ?_⟩
    have hcfg : (s.mapTxDiag τ d).cfg = s.cfg := rfl
    rw [hcfg]
    cases s.cfg.escThenSof with
    | restart => exact restartFrame_mapTxDiag τ d s
    | abort => rfl
  | rxFramingEscEsc =>
    refine ⟨_, _, fun _ => rfl, fun _ _ _ => rfl, fun τ d s => ?_⟩
    have hcfg : (s.mapTxDiag τ d).cfg = s.cfg := rfl
    rw [hcfg]
    cases s.cfg.escThenEsc <;> rfl
  | _ => cases hi

/-- A decoder row with no payload held reads neither the encoder's registers, which it keeps, nor the diagnostic, which it
overwrites. -/
theorem exec_mapTxDiag {i : Instr} (hi : isRxByteRow i = true) {s : State} (hr : s.rxOut = none) (τ : Tx → Tx)
    (d : Option Drop) : exec i (s.mapTxDiag τ d) = mapNext (State.mapTx τ) (exec i s) := by
  obtain ⟨selected, after, form⟩ := exists_rxRowForm hi
  rw [form.exec_eq, form.exec_eq, form.selected_eq, form.after_eq]
  cases hs : selected s <;> simp [State.rxRow, State.rxInReady, State.mapTxDiag, State.mapTx, hr, mapNext]

/-- R28, R155: every decoder row waits while a payload is held. -/
theorem exec_held {i : Instr} (hi : isRxByteRow i = true) {s : State} {p : List Byte} (hp : s.rxOut = some p) :
    exec i s = .next s := by
  obtain ⟨selected, after, form⟩ := exists_rxRowForm hi
  rw [form.exec_eq]
  exact rxRow_held hp

/-- Settles O16: the turns by their equations, the rows by their common form. -/
theorem heldPayloadStopsTheDecoder : Obligations.HeldPayloadStopsTheDecoder := by
  intro s p hp
  refine ⟨fun ts ht => step_rx_waits ht (.inr ?_), fun _ hi => exec_held hi hp, fun _ => step_ack⟩
  simp [hp]

/-! ### What an encoder row reads -/

/-- The decoder's registers changed by `ρ`, the diagnostic by `δ`. -/
def State.mapRx (ρ : Rx → Rx) (δ : Option Drop → Option Drop) (s : State) : State := { s with rx := ρ s.rx, rxDiag := δ s.rxDiag }

section
variable (ρ : Rx → Rx) (δ : Option Drop → Option Drop)

theorem emitSymbol_mapRx {s s' : State} (v : Byte) (h : s' = s.mapRx ρ δ) :
    s'.emitSymbol v = (s.emitSymbol v).mapRx ρ δ := by
  rw [h, emitSymbol_eq, emitSymbol_eq]
  rfl

theorem txRow_mapRx {s after after' : State} {p : Phase} (h : after' = after.mapRx ρ δ) :
    (s.mapRx ρ δ).txRow p after' = mapNext (State.mapRx ρ δ) (s.txRow p after) := by
  have htx : (s.mapRx ρ δ).tx = s.tx := rfl
  unfold State.txRow
  rw [htx, h]
  split <;> rfl

/-- An encoder row does the same whatever the decoder's registers and the diagnostic hold, and keeps them. -/
theorem exec_mapRx {i : Instr} (hi : isTxRow i = true) (s : State) :
    exec i (s.mapRx ρ δ) = mapNext (State.mapRx ρ δ) (exec i s) := by
  cases i with
  | txAccept len x =>
    have hr : (s.mapRx ρ δ).txCmdReady = s.txCmdReady := rfl
    simp only [exec, execTxAccept, hr]
    split
    · split <;> rfl
    · rfl
  | sendControl x k =>
    have hr : (s.mapRx ρ δ).txCmdReady = s.txCmdReady := rfl
    simp only [exec, execSendControl, hr]
    split <;> rfl
  | txEsc2 =>
    have htx : (s.mapRx ρ δ).tx = s.tx := rfl
    simp only [exec, execTxEsc2, htx]
    split
    · split <;> rfl
    · rfl
  | txSof | txEof | txCtl => exact txRow_mapRx ρ δ rfl
  | txData | txCrc => exact txRow_mapRx ρ δ (emitSymbol_mapRx ρ δ _ rfl)
  | _ => cases hi

/-- A command is taken, or waits, whatever the decoder holds. -/
theorem step_cmd_mapRx {s : State} {ts : List Turn} (ht : s.turns = .cmd :: ts) :
    step (s.mapRx ρ δ) = mapNext (State.mapRx ρ δ) (step s) := by
  have waits (h : s.txCmd = [] ∨ s.tx.phase ≠ .txIdle) : step (s.mapRx ρ δ) = mapNext (State.mapRx ρ δ) (step s) := by
    rw [step_cmd_waits (s := s.mapRx ρ δ) ht h, step_cmd_waits ht h]
    rfl
  cases hw : s.txCmd with
  | nil => exact waits (.inl hw)
  | cons w ws =>
    by_cases hp : s.tx.phase = .txIdle
    · rw [step_cmd_taken (s := s.mapRx ρ δ) ht hw hp, step_cmd_taken ht hw hp]
      cases hd : decodeCmd w with
      | ok i => exact exec_mapRx ρ δ (decodeCmd_kind hd) { s with turns := ts, txCmd := ws }
      | error e => cases e <;> rfl
    · exact waits (.inr hp)

/-- An emit turn selects, runs or waits whatever the decoder holds. -/
theorem step_tx_mapRx {s : State} {ts : List Turn} (ht : s.turns = .tx :: ts) :
    step (s.mapRx ρ δ) = mapNext (State.mapRx ρ δ) (step s) := by
  have hview : (s.mapRx ρ δ).txView = s.txView := rfl
  have hready : (s.mapRx ρ δ).txPlReady = s.txPlReady := rfl
  rw [step_tx (s := s.mapRx ρ δ) ht, step_tx ht, hview, hready]
  cases hd : decodeTxStep s.txView with
  | ok i =>
    have hi := decodeTxStep_kind hd
    cases s.txPlReady with
    | true => exact exec_mapRx ρ δ hi { s with turns := ts, txPl := s.txPl.tail }
    | false => exact exec_mapRx ρ δ hi { s with turns := ts }
  | error e => cases e <;> rfl

theorem step_mapRx_of_isTxTurn {s : State} {u : Turn} {ts : List Turn} (ht : s.turns = u :: ts) (hu : isTxTurn u = true) :
    step (s.mapRx ρ δ) = mapNext (State.mapRx ρ δ) (step s) := by
  cases u with
  | cmd => exact step_cmd_mapRx ρ δ ht
  | tx => exact step_tx_mapRx ρ δ ht
  | rx | ack | call | rst => cases hu

end

/-! ### The independence of the units -/

/-- A byte is taken, or waits, whatever the encoder holds. -/
theorem step_rx_mapTx {s : State} {ts : List Turn} (ht : s.turns = .rx :: ts) (τ : Tx → Tx) :
    step (s.mapTx τ) = mapNext (State.mapTx τ) (step s) := by
  have waits (h : s.rxIn = [] ∨ s.rxOut ≠ none) : step (s.mapTx τ) = mapNext (State.mapTx τ) (step s) := by
    rw [step_rx_waits (s := s.mapTx τ) ht h, step_rx_waits ht h]
    rfl
  cases hb : s.rxIn with
  | nil => exact waits (.inl hb)
  | cons b bs =>
    by_cases hr : s.rxOut = none
    · rw [step_rx_taken (s := s.mapTx τ) ht hb hr, step_rx_taken ht hb hr]
      exact exec_mapTxDiag (decodeRx_kind _ _) (s := { s with turns := ts, rxIn := bs }) hr τ s.rxDiag
    · exact waits (.inr hr)

theorem step_mapTx_of_isRxTurn {s : State} {u : Turn} {ts : List Turn} (ht : s.turns = u :: ts) (hu : isRxTurn u = true)
    (τ : Tx → Tx) : step (s.mapTx τ) = mapNext (State.mapTx τ) (step s) := by
  cases u with
  | rx => exact step_rx_mapTx ht τ
  | ack =>
    rw [step_ack (s := s.mapTx τ) ht, step_ack ht]
    rfl
  | cmd | tx | call | rst => cases hu

theorem step_txTurn_frame {s t : State} {u : Turn} {ts : List Turn} (ht : s.turns = u :: ts) (hu : isTxTurn u = true)
    (h : step s = .next t) :
    t.rx = s.rx ∧ t.rxIn = s.rxIn ∧ t.rxOut = s.rxOut ∧ t.rxDiag = s.rxDiag ∧ t.delivered = s.delivered := by
  cases step_effect h with
  | unscheduled | wait => exact ⟨rfl, rfl, rfl, rfl, rfl⟩
  | cmd _ _ _ _ _ _ _ he | tx _ _ _ _ _ he => rw [he.frame]; exact ⟨rfl, rfl, rfl, rfl, rfl⟩
  | ack _ h' | rst _ h' | rx _ _ _ _ h' | call _ _ _ h' => rw [ht] at h'; cases h'; cases hu

theorem step_rxTurn_frame {s t : State} {u : Turn} {ts : List Turn} (ht : s.turns = u :: ts) (hu : isRxTurn u = true)
    (h : step s = .next t) :
    t.tx = s.tx ∧ t.txCmd = s.txCmd ∧ t.txCmdStatus = s.txCmdStatus ∧ t.txPl = s.txPl ∧ t.txOut = s.txOut := by
  cases step_effect h with
  | unscheduled | wait | ack => exact ⟨rfl, rfl, rfl, rfl, rfl⟩
  | rx _ _ _ _ _ _ _ he => rw [he.frame]; exact ⟨rfl, rfl, rfl, rfl, rfl⟩
  | cmd _ _ _ _ h' | tx _ _ _ h' | rst _ h' | call _ _ _ h' => rw [ht] at h'; cases h'; cases hu

/-- Settles O57: the frames from a step's effect, the rest by replacing the other unit's registers before and after. -/
theorem decoderAndEncoderAreIndependent : Obligations.DecoderAndEncoderAreIndependent :=
  ⟨fun _ _ _ _ => step_txTurn_frame, fun _ _ _ _ => step_rxTurn_frame,
    fun _ _ _ r ht hu => step_mapRx_of_isTxTurn (fun _ => r) id ht hu,
    fun _ _ _ x ht hu => step_mapTx_of_isRxTurn ht hu fun _ => x⟩

/-! ### The diagnostic -/

/-- A function row returns one value, whatever the state. -/
theorem exec_function_row_uniform {i : Instr} (hi : isFunctionRow i = true) :
    ∃ r, ∀ s : State, exec i s = .next (s.answer r) := by
  cases i with
  | txStuffS00 | txStuffSaa | txStuffSff | txStuffOther | encodeFrame | crcGen | crcUpd | crcRaw | crcFin | crcChk
  | ctlBase | ctlRadio | ctlTelem => exact ⟨_, fun _ => rfl⟩
  | _ => cases hi

theorem step_call_mapRx {s : State} {f : FunCall} {ts : List Turn} (ht : s.turns = .call f :: ts) (ρ : Rx → Rx)
    (δ : Option Drop → Option Drop) : step (s.mapRx ρ δ) = mapNext (State.mapRx ρ δ) (step s) := by
  rw [step_call (s := s.mapRx ρ δ) ht, step_call ht]
  cases hd : decodeCall f with
  | ok i =>
    obtain ⟨r, hr⟩ := exec_function_row_uniform (decodeCall_kind hd)
    simp only [hr]
    rfl
  | error e => cases e <;> rfl

/-- The two answers are the same, the diagnostic apart. -/
def SameButDiag (a b : Answer) : Prop :=
  mapNext (fun t => { t with rxDiag := none }) a = mapNext (fun t => { t with rxDiag := none }) b

/-- The diagnostic replaced. -/
def State.withDiag (d : Option Drop) : State → State := State.mapRx id fun _ => d

/-- An answer carried through a replaced diagnostic is the same, the diagnostic apart. -/
theorem sameButDiag_of_mapRx {a b : Answer} {d : Option Drop} (h : a = mapNext (State.withDiag d) b) :
    SameButDiag a b := by
  subst h
  cases b <;> rfl

theorem mapNext_mapTx_id (a : Answer) : mapNext (State.mapTx id) a = a := by
  cases a <;> rfl

/-- A byte that is taken overwrites the diagnostic; where the decoder waits it stays. -/
theorem step_rx_sameButDiag {s : State} {ts : List Turn} (ht : s.turns = .rx :: ts) (d : Option Drop) :
    SameButDiag (step (s.withDiag d)) (step s) := by
  have waits (h : s.rxIn = [] ∨ s.rxOut ≠ none) : SameButDiag (step (s.withDiag d)) (step s) := by
    rw [step_rx_waits (s := s.withDiag d) ht h, step_rx_waits ht h]
    rfl
  cases hb : s.rxIn with
  | nil => exact waits (.inl hb)
  | cons b bs =>
    by_cases hr : s.rxOut = none
    · have hexec := exec_mapTxDiag (decodeRx_kind s.rxView b) (s := { s with turns := ts, rxIn := bs }) hr id d
      rw [mapNext_mapTx_id] at hexec
      rw [step_rx_taken (s := s.withDiag d) ht hb hr, step_rx_taken ht hb hr]
      exact congrArg _ hexec
    · exact waits (.inr hr)

/-- Settles O59: turn by turn. -/
theorem diagnosticIsNeverRead : Obligations.DiagnosticIsNeverRead := by
  intro s d
  change SameButDiag (step (s.withDiag d)) (step s)
  cases ht : s.turns with
  | nil =>
    rw [step_no_turn (s := s.withDiag d) ht, step_no_turn ht]
    rfl
  | cons u ts =>
    cases u with
    | rx => exact step_rx_sameButDiag ht d
    | ack =>
      rw [step_ack (s := s.withDiag d) ht, step_ack ht]
      rfl
    | rst =>
      rw [step_rst (s := s.withDiag d) ht, step_rst ht]
      rfl
    | cmd => exact sameButDiag_of_mapRx (step_cmd_mapRx id (fun _ => d) ht)
    | tx => exact sameButDiag_of_mapRx (step_tx_mapRx id (fun _ => d) ht)
    | call f => exact sameButDiag_of_mapRx (step_call_mapRx ht id fun _ => d)

end Sys2Proof.Machine

/-! PROOFS. The statements about the encoding: the decoder's table as a first-match chain (O17), and the stuffed body of a frame, its
bytes and its length (O32, O40, O41). -/

namespace Sys2Proof.Machine

/-! ### R140's chain in each of the decoder's three states -/

theorem rxStep_idle {s : State} (b : Byte) (h : s.inIdle = true) :
    rxStep b s = if b = 0x00#8 then s.startFrame else s.ignoreByte := by
  have hm := (inIdle_iff s).1 h
  simp only [rxStep, hm, and_true, if_true]
  split <;> rfl

theorem rxStep_framing {s : State} (b : Byte) (h : s.inFraming = true) :
    rxStep b s =
      if b = 0x00#8 then s.restartFrame
      else if b = 0xaa#8 then s.openEscape
      else if b = 0xff#8 then if s.frameValid then s.deliver else s.discardFrame
      else s.takeData b := by
  obtain ⟨hm, he⟩ := (inFraming_iff s).1 h
  simp [rxStep, hm, he]

theorem rxStep_framingEsc {s : State} (b : Byte) (h : s.inFramingEsc = true) :
    rxStep b s =
      if b = 0x00#8 then if s.cfg.escThenSof = .abort then s.drop .malformedEscape else s.restartFrame
      else if b = 0xaa#8 then if s.cfg.escThenEsc = .abort then s.drop .malformedEscape else s.openEscape
      else if b = 0xab#8 then s.takeEscaped .x00
      else if b = 0xac#8 then s.takeEscaped .xaa
      else if b = 0xad#8 then s.takeEscaped .xff
      else s.drop .malformedEscape := by
  obtain ⟨hm, he⟩ := (inFramingEsc_iff s).1 h
  simp [rxStep, hm, he]

theorem not_isReservedValue_iff {b : Byte} : (!isReservedValue b) = true ↔ b ≠ 0x00#8 ∧ b ≠ 0xaa#8 ∧ b ≠ 0xff#8 := by
  simp [isReservedValue, and_assoc]

theorem not_isFixedRxValue_iff {b : Byte} :
    (!isFixedRxValue b) = true ↔
      b ≠ 0x00#8 ∧ b ≠ 0xaa#8 ∧ b ≠ 0xab#8 ∧ b ≠ 0xac#8 ∧ b ≠ 0xad#8 ∧ b ≠ 0xff#8 := by
  simp [isFixedRxValue, and_assoc]

/-- With no escape pending every value that is not reserved is data, the code values among them (R149). -/
theorem rxStep_framing_data {s : State} {b : Byte} (h : s.inFraming = true) (hb : (!isReservedValue b) = true) :
    rxStep b s = s.takeData b := by
  obtain ⟨h0, ha, hf⟩ := not_isReservedValue_iff.1 hb
  rw [rxStep_framing b h, if_neg h0, if_neg ha, if_neg hf]

/-- With an escape pending every byte but `SOF`, `ESC` and the codes is malformed (R146). -/
theorem rxStep_framingEsc_data {s : State} {b : Byte} (h : s.inFramingEsc = true) (hb : (!isFixedRxValue b) = true) :
    rxStep b s = s.drop .malformedEscape := by
  obtain ⟨h0, ha, hx00, hxaa, hxff, -⟩ := not_isFixedRxValue_iff.1 hb
  rw [rxStep_framingEsc b h, if_neg h0, if_neg ha, if_neg hx00, if_neg hxaa, if_neg hxff]

/-- A full accumulator drops the frame on every byte that would append a symbol (R150). -/
theorem rxStep_of_full {s : State} {b : Byte} (hfull : s.accFull = true) (ha : s.appends b = true) :
    rxStep b s = s.drop .overflow := by
  simp only [State.appends, Bool.and_eq_true, beq_iff_eq] at ha
  obtain ⟨hm, ha⟩ := ha
  cases he : s.rx.esc with
  | false =>
    rw [he] at ha
    rw [rxStep_framing_data ((inFraming_iff s).2 ⟨hm, he⟩) ha, takeData_of_full b hfull]
  | true =>
    simp only [he, if_true, Bool.or_eq_true, beq_iff_eq] at ha
    rw [rxStep_framingEsc b ((inFramingEsc_iff s).2 ⟨hm, he⟩)]
    rcases ha with (rfl | rfl) | rfl <;> exact takeEscaped_of_full _ hfull

/-! ### The rows against the chain -/

/-- With no payload held a decoder row answers only where it is selected, and then its effect. -/
theorem next_eq_of_row {s t after u : State} {selected : Bool} (hr : s.rxOut = none)
    (h : s.rxRow selected after = .next t) (hs : selected = true → u = after) : t = u := by
  rcases rxRow_next h with ⟨hheld, -⟩ | ⟨-, hsel, rfl⟩
  · simp [State.rxInReady, hr] at hheld
  · exact (hs hsel).symm

/-- Row by row, in the state that selects it. -/
theorem next_eq_rxStep {i : Instr} {s t : State} {v : RxView} {b : Byte} (hr : s.rxOut = none) (hw : wellFormed i = true)
    (hb : encode i = .rxByte v b) (h : exec i s = .next t) : t = rxStep b s := by
  cases i with
  | rxIdleSof | rxIdleEsc | rxIdleX00 | rxIdleXaa | rxIdleXff | rxIdleEof =>
    cases hb
    exact next_eq_of_row hr h fun hs => rxStep_idle _ hs
  | rxIdleDat d =>
    cases hb
    exact next_eq_of_row hr h fun hs => (rxStep_idle _ hs).trans (if_neg (not_isFixedRxValue_iff.1 hw).1)
  | rxFramingSof | rxFramingEsc | rxFramingX00 | rxFramingXaa | rxFramingXff =>
    cases hb
    exact next_eq_of_row hr h fun hs => rxStep_framing _ hs
  | rxFramingEofValid =>
    cases hb
    refine next_eq_of_row hr h fun hs => ?_
    obtain ⟨hf, hvalid⟩ := (Bool.and_eq_true _ _).mp hs
    exact (rxStep_framing _ hf).trans (if_pos hvalid)
  | rxFramingEofInvalid =>
    cases hb
    refine next_eq_of_row hr h fun hs => ?_
    obtain ⟨hf, hinvalid⟩ := (Bool.and_eq_true _ _).mp hs
    have hvalid : ¬ s.frameValid = true := by simpa using hinvalid
    exact (rxStep_framing _ hf).trans (if_neg hvalid)
  | rxFramingDat d =>
    cases hb
    exact next_eq_of_row hr h fun hs => rxStep_framing_data hs (not_isReservedValue_of_not_isFixedRxValue hw)
  | rxFramingOverflow d =>
    cases hb
    refine next_eq_of_row hr h fun hs => ?_
    obtain ⟨hfull, ha⟩ := (Bool.and_eq_true _ _).mp hs
    exact rxStep_of_full hfull ha
  | rxFramingEscSof =>
    cases hb
    refine next_eq_of_row hr h fun hs => ?_
    rw [rxStep_framingEsc _ hs]
    cases s.cfg.escThenSof <;> rfl
  | rxFramingEscEsc =>
    cases hb
    refine next_eq_of_row hr h fun hs => ?_
    rw [rxStep_framingEsc _ hs]
    cases s.cfg.escThenEsc <;> rfl
  | rxFramingEscX00 | rxFramingEscXaa | rxFramingEscXff | rxFramingEscEof =>
    cases hb
    exact next_eq_of_row hr h fun hs => rxStep_framingEsc _ hs
  | rxFramingEscDat d =>
    cases hb
    exact next_eq_of_row hr h fun hs => rxStep_framingEsc_data hs hw
  | _ => cases hb

theorem encode_decodeRx (v : RxView) (b : Byte) : ∃ v', encode (decodeRx v b) = .rxByte v' b := by
  have hkind := decodeRx_kind v b
  obtain ⟨-, hbits⟩ := decodeRx_carries v b
  unfold isRxByteRow at hkind
  cases hc : encode (decodeRx v b) with
  | rxByte v' b' =>
    rw [hc] at hbits
    cases hbits
    exact ⟨v', rfl⟩
  | _ => rw [hc] at hkind; cases hkind

/-! ### The decoded row is selected -/

theorem exec_decodeRx_idle {s : State} (b : Byte) (hr : s.rxOut = none) (hm : s.rx.mode = .idle) :
    ∃ t, exec (decodeRx s.rxView b) s = .next t := by
  have hs := (inIdle_iff s).2 hm
  simp only [decodeRx, State.rxView, hm]
  cases classOf b <;> exact ⟨_, rxRow_selected hr hs⟩

theorem exec_decodeRx_framingEsc {s : State} (b : Byte) (hr : s.rxOut = none) (hm : s.rx.mode = .framing)
    (he : s.rx.esc = true) : ∃ t, exec (decodeRx s.rxView b) s = .next t := by
  have hs := (inFramingEsc_iff s).2 ⟨hm, he⟩
  simp only [decodeRx, State.rxView, hm, he]
  cases classOf b <;> exact ⟨_, rxRow_selected hr hs⟩

/-- A full accumulator selects the overflow row on a byte that is not reserved, any room the byte's own row. -/
theorem exec_decodeRx_framing {s : State} (b : Byte) (hr : s.rxOut = none) (hm : s.rx.mode = .framing)
    (he : s.rx.esc = false) : ∃ t, exec (decodeRx s.rxView b) s = .next t := by
  have hs := (inFraming_iff s).2 ⟨hm, he⟩
  have hfull (hf : s.accFull = true) (hb : (!isReservedValue b) = true) :
      ∃ t, exec (.rxFramingOverflow b) s = .next t :=
    ⟨_, rxRow_selected hr (by simp [State.appends, hf, hm, he, hb])⟩
  simp only [decodeRx, State.rxView, hm, he]
  cases wireByte b with
  | sof | esc => exact ⟨_, rxRow_selected hr hs⟩
  | x00 | xaa | xff =>
    cases hf : s.accFull with
    | true => exact hfull hf rfl
    | false => exact ⟨_, rxRow_selected hr hs⟩
  | eof => cases hv : s.frameValid <;> exact ⟨_, rxRow_selected hr (by rw [hs, hv]; rfl)⟩
  | dat hb =>
    rw [Laws.RoundTrip.classOf_dat hb]
    cases hf : s.accFull with
    | true => exact hfull hf (not_isReservedValue_of_not_isFixedRxValue hb)
    | false => exact ⟨_, rxRow_selected hr hs⟩

theorem exec_decodeRx {s : State} (b : Byte) (hr : s.rxOut = none) : ∃ t, exec (decodeRx s.rxView b) s = .next t := by
  cases hm : s.rx.mode with
  | idle => exact exec_decodeRx_idle b hr hm
  | framing =>
    cases he : s.rx.esc with
    | false => exact exec_decodeRx_framing b hr hm he
    | true => exact exec_decodeRx_framingEsc b hr hm he

/-- Settles O17: a row that answers, answers what the chain gives, and the row the state and the byte select answers. -/
theorem rxRowsAreTheFirstMatch : Obligations.RxRowsAreTheFirstMatch := by
  refine ⟨fun s b hr => ?_, fun _ _ _ _ _ => next_eq_rxStep⟩
  obtain ⟨t, ht⟩ := exec_decodeRx b hr
  obtain ⟨v', hv⟩ := encode_decodeRx s.rxView b
  rw [ht, next_eq_rxStep hr (decodeRx_carries s.rxView b).1 hv ht]

/-! ### Stuffing -/

@[simp] theorem stuff_symbol (c : EscCode) : stuff c.symbol = [escByte, c.byte] := by
  cases c <;> rfl

theorem stuff_plain {v : Byte} (h : (!isReservedValue v) = true) : stuff v = [v] := by
  simp only [stuff, Laws.RoundTrip.escCodeOf_other h]

/-- Settles O32: a reserved symbol is the symbol of its code; any other row returns its operand. -/
theorem stuffRowsEmitThePairs : Obligations.StuffRowsEmitThePairs := by
  intro s
  have pair (c : EscCode) :
      (.next (s.answer (.bytes (stuff c.symbol))) : Answer) = .next { s with ret := .bytes [0xaa#8, c.byte] } := by
    rw [stuff_symbol]
    rfl
  exact ⟨pair .x00, pair .xaa, pair .xff, fun _ _ _ _ => rfl⟩

/-- The symbol of a code, or stuffed as itself (R62). -/
theorem reserved_or_plain (v : Byte) : (∃ c : EscCode, v = c.symbol) ∨ (!isReservedValue v) = true := by
  cases h : escCodeOf v with
  | some c => exact .inl ⟨c, escCodeOf_eq_some_iff.1 h⟩
  | none => exact .inr (escCodeOf_eq_none_iff.1 h)

theorem not_delimiter_of_mem_stuff {v b : Byte} (h : b ∈ stuff v) : b ≠ sofByte ∧ b ≠ eofByte := by
  obtain ⟨c, rfl⟩ | hv := reserved_or_plain v
  · have pair : ∀ x ∈ [escByte, c.byte], x ≠ sofByte ∧ x ≠ eofByte := by cases c <;> decide
    exact pair b (stuff_symbol c ▸ h)
  · obtain rfl := List.mem_singleton.1 (stuff_plain hv ▸ h)
    obtain ⟨h0, -, hf⟩ := not_isReservedValue_iff.1 hv
    exact ⟨h0, hf⟩

/-- Every escape marker in the bytes is followed by a code. -/
def EscPaired (bs : List Byte) : Prop :=
  ∀ pre post, bs = pre ++ escByte :: post → ∃ (c : EscCode) (rest : List Byte), post = c.byte :: rest

theorem EscPaired.nil : EscPaired [] := fun _ _ h => by simp at h

theorem EscPaired.cons {v : Byte} {bs : List Byte} (hv : v ≠ escByte) (h : EscPaired bs) : EscPaired (v :: bs) := by
  intro pre post hsplit
  cases pre with
  | nil => exact absurd (List.cons.inj hsplit).1 hv
  | cons _ pre => exact h pre post (List.cons.inj hsplit).2

theorem EscPaired.pair (c : EscCode) {bs : List Byte} (h : EscPaired bs) : EscPaired (escByte :: c.byte :: bs) := by
  have hc : c.byte ≠ escByte := by cases c <;> decide
  intro pre post hsplit
  cases pre with
  | nil => exact ⟨c, bs, (List.cons.inj hsplit).2.symm⟩
  | cons _ pre => exact h.cons hc pre post (List.cons.inj hsplit).2

theorem escPaired_flatMap_stuff (vs : List Byte) : EscPaired (vs.flatMap stuff) := by
  induction vs with
  | nil => exact .nil
  | cons v vs ih =>
    rw [List.flatMap_cons]
    obtain ⟨c, rfl⟩ | hv := reserved_or_plain v
    · rw [stuff_symbol]
      exact ih.pair c
    · rw [stuff_plain hv]
      exact ih.cons (not_isReservedValue_iff.1 hv).2.1

/-- Between its delimiters a frame is the stuffed payload and checksum (R61). -/
theorem body_of_frameBytes {p body : List Byte} (h : frameBytes p = [0x00#8] ++ body ++ [0xff#8]) :
    body = (p ++ [computeCrc p]).flatMap stuff :=
  (List.append_cancel_right (List.cons.inj h).2).symm

/-- Settles O40: the body is made of stuffed symbols. -/
theorem bodyHoldsNoDelimiter : Obligations.BodyHoldsNoDelimiter := by
  intro p body h
  obtain rfl := body_of_frameBytes h
  have hmem {b : Byte} (hb : b ∈ (p ++ [computeCrc p]).flatMap stuff) : b ≠ sofByte ∧ b ≠ eofByte := by
    obtain ⟨v, -, hv⟩ := List.mem_flatMap.1 hb
    exact not_delimiter_of_mem_stuff hv
  refine ⟨fun h0 => (hmem h0).1 rfl, fun hf => (hmem hf).2 rfl, fun pre post hsplit => ?_⟩
  obtain ⟨c, rest, rfl⟩ := escPaired_flatMap_stuff _ pre post hsplit
  exact ⟨c.byte, rest, rfl, by cases c <;> decide⟩

/-! ### The length of a frame -/

theorem length_stuff (v : Byte) : (stuff v).length = 1 + if isReservedValue v then 1 else 0 := by
  obtain ⟨c, rfl⟩ | hv := reserved_or_plain v
  · cases c <;> rfl
  · rw [Bool.not_eq_true'] at hv
    simp [stuff_plain, hv]

theorem length_flatMap_stuff (vs : List Byte) : (vs.flatMap stuff).length = vs.length + vs.countP isReservedValue := by
  induction vs with
  | nil => rfl
  | cons v vs ih =>
    rw [List.flatMap_cons, List.length_append, length_stuff, ih, List.length_cons, List.countP_cons]
    omega

theorem length_frameBytes (p : List Byte) :
    (frameBytes p).length =
      p.length + p.countP isReservedValue + 3 + if isReservedValue (computeCrc p) then 1 else 0 := by
  simp only [frameBytes, List.cons_append, List.length_cons, List.length_append, length_flatMap_stuff, List.countP_append,
    List.countP_singleton, List.length_nil]
  omega

/-- Settles O41: the bounds are those of the count. -/
theorem frameLengthCountsReservedSymbols : Obligations.FrameLengthCountsReservedSymbols := by
  intro p
  have hcount : p.countP isReservedValue ≤ p.length := List.countP_le_length
  have hlen := length_frameBytes p
  refine ⟨hlen, ?_, ?_⟩ <;> rw [hlen] <;> split <;> omega

end Sys2Proof.Machine

/-! PROOFS. The statements about the CRC unit (O27 to O31, O36 to O39). Everything about the table follows from one fact about the
shift register of R97, `crcClock_xor`: a clock is additive over XOR in the register and the input bit together. -/

namespace Sys2Proof.Machine

/-! ### One clock of the shift register -/

/-- What a clock adds to the shifted register: the polynomial if the bit fed back is 1. -/
def crcFeedback (d : Bool) : Byte := bif d then BitVec.ofNat 8 crcPoly else 0#8

theorem crcFeedback_xor (d e : Bool) : crcFeedback (d ^^ e) = crcFeedback d ^^^ crcFeedback e := by
  cases d <;> cases e <;> rfl

theorem crcClock_eq (c : Byte) (d : Bool) : crcClock c d = c <<< 1 ^^^ crcFeedback (c.msb ^^ d) := by
  unfold crcClock
  cases c.msb ^^ d <;> simp [crcFeedback]

theorem crcClock_xor (a b : Byte) (d e : Bool) : crcClock (a ^^^ b) (d ^^ e) = crcClock a d ^^^ crcClock b e := by
  simp only [crcClock_eq, BitVec.msb_xor, BitVec.shiftLeft_xor_distrib, crcFeedback_xor]
  ac_rfl

/-- An input bit that equals the register's bit 7 cancels it. -/
theorem crcClock_msb (c : Byte) : crcClock c c.msb = c <<< 1 := by
  simp [crcClock_eq, crcFeedback]

/-- A clock with input bit 0, the iteration of R91 on a byte. -/
def crcShift (c : Byte) : Byte := crcClock c false

theorem crcShift_semiconj₂ : Function.Semiconj₂ crcShift (· ^^^ ·) (· ^^^ ·) := fun a b =>
  crcClock_xor a b false false

/-- The polynomial is odd: bit 0 of the result is the bit that was shifted out. -/
theorem crcShift_getLsbD_zero (c : Byte) : (crcShift c).getLsbD 0 = c.msb := by
  rw [crcShift, crcClock_eq, Bool.xor_false]
  cases c.msb <;> simp [crcFeedback, crcPoly]

theorem eq_zero_of_crcShift_eq_zero {c : Byte} (h : crcShift c = 0#8) : c = 0#8 := by
  have hmsb : c.msb = false := by rw [← crcShift_getLsbD_zero, h]; rfl
  have hshift : c <<< 1 = 0#8 := by rw [← crcClock_msb, hmsb]; exact h
  have hlt : c.toNat < 128 := by simpa using BitVec.toNat_lt_of_msb_false hmsb
  bv_omega

theorem crcShift_injective : Function.Injective crcShift := fun a b h =>
  BitVec.xor_eq_zero_iff.1 <| eq_zero_of_crcShift_eq_zero <| (crcShift_semiconj₂ a b).trans <|
    BitVec.xor_eq_zero_iff.2 h

/-! ### The table -/

theorem genIter_eq_iterate (k n : Nat) : genIter k n = genStep^[k] n := by
  induction k generalizing n with
  | zero => rfl
  | succ k ih => exact ih (genStep n)

/-- The iteration of R91 may truncate at every turn: what it shifts out of the byte never comes back. -/
theorem ofNat_semiconj_genStep : Function.Semiconj (BitVec.ofNat 8) genStep crcShift := by
  intro n
  have hmsb : (BitVec.ofNat 8 n).msb = n.testBit 7 := by
    rw [BitVec.msb_eq_getLsbD_last, BitVec.getLsbD_ofNat]
    rfl
  have hshl : BitVec.ofNat 8 (n <<< 1) = BitVec.ofNat 8 n <<< 1 := by
    apply BitVec.eq_of_toNat_eq; simp [Nat.shiftLeft_eq]
  have hand : n &&& 0x80 = (n.testBit 7).toNat * 2 ^ 7 := Nat.and_two_pow n 7
  rw [crcShift, crcClock_eq, hmsb, genStep, hand]
  cases n.testBit 7 <;> simp [BitVec.ofNat_xor, hshl, crcFeedback]

theorem tableEntry_eq_iterate (i : Byte) : tableEntry i = crcShift^[8] i := by
  rw [tableEntry, genIter_eq_iterate, BitVec.ofNat_and, (ofNat_semiconj_genStep.iterate_right 8).eq,
    BitVec.ofNat_toNat, BitVec.setWidth_eq]
  exact BitVec.and_allOnes

theorem tableEntry_xor (a b : Byte) : tableEntry (a ^^^ b) = tableEntry a ^^^ tableEntry b := by
  simp only [tableEntry_eq_iterate]
  exact crcShift_semiconj₂.iterate 8 a b

theorem tableEntry_injective : Function.Injective tableEntry := by
  rw [funext tableEntry_eq_iterate]
  exact crcShift_injective.iterate 8

/-- Settles O37: the table is eight clocks, each additive and injective; an injection of the bytes is a bijection. -/
theorem crcTableIsLinearAndBijective : Obligations.CrcTableIsLinearAndBijective :=
  ⟨tableEntry_xor, fun _ _ h => tableEntry_injective h, Finite.injective_iff_surjective.1 tableEntry_injective⟩

theorem crcTable_getElem? {i : Nat} (hi : i < 256) : crcTable[i]? = some (tableEntry (BitVec.ofNat 8 i)) := by
  simp [crcTable, hi]

/-- Settles O27: the untruncated iteration is `genStep`. -/
theorem crcGenReturnsTheGeneratedTable : Obligations.CrcGenReturnsTheGeneratedTable := by
  intro s
  refine ⟨crcTable, rfl, by simp [crcTable], fun i hi => ?_⟩
  rw [crcTable_getElem? hi, tableEntry, BitVec.toNat_ofNat, Nat.mod_eq_of_lt hi, genIter_eq_iterate]
  rfl

/-- Settles O28: CRC.UPD computes the entry that the table holds at its index. -/
theorem crcUpdLooksUpTheTable : Obligations.CrcUpdLooksUpTheTable := by
  intro s c b
  refine ⟨crcUpdate c b, ?_, rfl⟩
  rw [crcTable_getElem? (b ^^^ c).isLt, BitVec.ofNat_toNat, BitVec.setWidth_eq, crcUpdate]

/-- Settles O36: the table is a closed term, evaluated entry by entry. -/
theorem crcTableHasTheListedEntries : Obligations.CrcTableHasTheListedEntries := by
  unfold Obligations.CrcTableHasTheListedEntries
  decide +kernel

/-! ### The realisations of the update -/

/-- The register after the first `k` bits of `b`, bit 7 first (R97). -/
def crcClockBits (c b : Byte) : Nat → Byte
  | 0 => c
  | k + 1 => crcClock (crcClockBits c b k) (b.getMsbD k)

theorem crcBits_eq_crcClockBits (c b : Byte) : crcBits c b = crcClockBits c b 8 := rfl

/-- Loading `b` into the register or clocking its bits in differs by the bits of `b` not yet clocked. -/
theorem crcShift_iterate_xor (c b : Byte) (k : Nat) : crcShift^[k] (c ^^^ b) = crcClockBits c b k ^^^ b <<< k := by
  induction k with
  | zero => simp [crcClockBits]
  | succ k ih =>
    calc crcShift^[k + 1] (c ^^^ b)
      _ = crcClock (crcClockBits c b k ^^^ b <<< k) (b.getMsbD k ^^ (b <<< k).msb) := by
        rw [Function.iterate_succ_apply', ih, BitVec.msb_shiftLeft, Bool.xor_self, crcShift]
      _ = crcClockBits c b (k + 1) ^^^ b <<< (k + 1) := by
        rw [crcClock_xor, crcClock_msb, ← BitVec.shiftLeft_add, crcClockBits]

theorem crcBits_eq_crcUpdate (c b : Byte) : crcBits c b = crcUpdate c b := by
  rw [crcUpdate, tableEntry_eq_iterate, BitVec.xor_comm, crcShift_iterate_xor, crcBits_eq_crcClockBits,
    BitVec.shiftLeft_eq_zero (le_refl 8), BitVec.xor_zero]

theorem xorBits_concat (x : Byte) (js : List Nat) (j : Nat) : xorBits x (js ++ [j]) = (xorBits x js ^^ x.getLsbD j) := by
  simp [xorBits]

/-- The low `n + 1` bits of a byte are the low `n` and bit `n`. -/
theorem setWidth_succ_eq_xor (x : Byte) (n : Nat) :
    (x.setWidth (n + 1)).setWidth 8 = (x.setWidth n).setWidth 8 ^^^ (x &&& BitVec.twoPow 8 n) := by
  apply BitVec.eq_of_getLsbD_eq
  intro i hi
  simp only [BitVec.getLsbD_setWidth, BitVec.getLsbD_xor, BitVec.getLsbD_and, BitVec.getLsbD_twoPow, hi]
  rcases lt_trichotomy i n with h | rfl | h
  · simp [h, h.ne', Nat.lt_succ_of_lt h]
  · simp [hi]
  · simp [h.ne, h.not_ge, h.not_gt]

/-- A function of a byte that is additive over XOR is the XOR of the bits at which it is 1 on the basis. -/
theorem additive_eq_xorBits {f : Byte → Bool} (hf : ∀ a b, f (a ^^^ b) = (f a ^^ f b)) (x : Byte) :
    f x = xorBits x ((List.range 8).filter fun j => f (BitVec.twoPow 8 j)) := by
  have hzero : f 0#8 = false := by simpa using hf 0#8 0#8
  have low (n : Nat) : f ((x.setWidth n).setWidth 8) =
      xorBits x ((List.range n).filter fun j => f (BitVec.twoPow 8 j)) := by
    induction n with
    | zero => rw [BitVec.of_length_zero (x := x.setWidth 0)]; exact hzero
    | succ n ih =>
      rw [setWidth_succ_eq_xor, hf, ih, List.range_succ, List.filter_append, BitVec.and_twoPow]
      cases hj : f (BitVec.twoPow 8 n) <;> cases hx : x.getLsbD n <;> simp [hj, hx, hzero, xorBits_concat]
  simpa using low 8

/-- The positions `j` with bit `k` of `T[1 << j]` set (R99 (d)). -/
def tableColumn (k : Nat) : List Nat := (List.range 8).filter fun j => (tableEntry (BitVec.twoPow 8 j)).getLsbD k

theorem tableEntry_getLsbD (x : Byte) (k : Nat) : (tableEntry x).getLsbD k = xorBits x (tableColumn k) :=
  additive_eq_xorBits (f := fun x => (tableEntry x).getLsbD k) (by simp [tableEntry_xor]) x

/-- R98 lists the columns of the basis. -/
theorem crcParallelBit_eq_xorBits (x : Byte) {k : Nat} (hk : k < 8) : crcParallelBit x k = xorBits x (tableColumn k) := by
  interval_cases k <;> rfl

/-- Settles O38: clocking `b` in equals eight clocks from `c ^^^ b`; the network is linear and right on the basis. -/
theorem crcRealisationsAgree : Obligations.CrcRealisationsAgree := by
  refine ⟨crcBits_eq_crcUpdate, fun c b k hk => ?_⟩
  rw [crcUpdate, tableEntry_getLsbD, crcParallelBit_eq_xorBits _ hk, BitVec.xor_comm]

/-! ### The fold -/

theorem crcRaw_append (bs ds : List Byte) : crcRaw (bs ++ ds) = crcFrom (crcRaw bs) ds :=
  crcFrom_append crcInit bs ds

/-- Settles O29: CRC.RAW is a left fold. -/
theorem crcRawFoldsFromZero : Obligations.CrcRawFoldsFromZero :=
  ⟨fun _ _ => rfl, crcRaw_nil, crcRaw_concat, crcFrom_nil, crcFrom_cons, crcRaw_append⟩

/-- Settles O30: CRC.FIN returns `computeCrc`. -/
theorem crcFinXorsOnce : Obligations.CrcFinXorsOnce := fun _ _ => rfl

theorem crcUpdate_inj_symbol {c a b : Byte} : crcUpdate c a = crcUpdate c b ↔ a = b :=
  tableEntry_injective.eq_iff.trans (BitVec.xor_left_inj c)

theorem crcUpdate_inj_register {a b v : Byte} : crcUpdate a v = crcUpdate b v ↔ a = b :=
  tableEntry_injective.eq_iff.trans (BitVec.xor_right_inj v)

/-- A symbol sends the register to the residue when it is the register XOR 0xff (R96). -/
theorem crcUpdate_xorOut (c : Byte) : crcUpdate c (c ^^^ crcXorOut) = crcResidue := by
  rw [crcUpdate, BitVec.xor_comm, ← BitVec.xor_assoc, BitVec.xor_self, BitVec.zero_xor]
  exact tableEntry_ff

theorem crcRaw_concat_computeCrc (p : List Byte) : crcRaw (p ++ [computeCrc p]) = crcResidue := by
  rw [crcRaw_concat]
  exact crcUpdate_xorOut (crcRaw p)

/-- The update is injective in the symbol, so no other symbol leads to the residue. -/
theorem crcRaw_concat_eq_residue_iff (a : List Byte) (b : Byte) : crcRaw (a ++ [b]) = crcResidue ↔ b = computeCrc a := by
  rw [← crcRaw_concat_computeCrc a, crcRaw_concat, crcRaw_concat, crcUpdate_inj_symbol]

/-- Settles O31: the residue is entry 0xff of the table, which no other index has. -/
theorem crcChkGivesTheResidue : Obligations.CrcChkGivesTheResidue := by
  refine ⟨fun s p => ?_, crcRaw_concat_computeCrc, crcRaw_concat_eq_residue_iff⟩
  have hexec : exec (.crcChk p) s = execCrcChk p s := rfl
  rw [hexec, execCrcChk, crcRaw_concat_computeCrc]
  rfl

/-- Two registers that differ stay different over the same symbols (R102). -/
theorem crcFrom_injective (bs : List Byte) : Function.Injective (crcFrom · bs) := by
  induction bs with
  | nil => exact fun _ _ h => h
  | cons v bs ih => exact fun _ _ h => crcUpdate_inj_register.1 (ih h)

theorem crcRaw_symbol_inj {pre post : List Byte} {a b : Byte} :
    crcRaw (pre ++ a :: post) = crcRaw (pre ++ b :: post) ↔ a = b := by
  simp only [crcRaw_append, crcFrom_cons, (crcFrom_injective post).eq_iff, crcUpdate_inj_symbol]

theorem crcRaw_replicate_zero (n : Nat) : crcRaw (List.replicate n 0x00#8) = 0x00#8 := by
  induction n with
  | zero => rfl
  | succ n ih => rw [List.replicate_succ', crcRaw_concat, ih]; exact tableEntry_zero

/-- Settles O39: the differing symbol splits the registers and the symbols after it keep them apart; a zero symbol keeps a zero
register. -/
theorem crcSeesOneWrongSymbolButNoLeadingZeros : Obligations.CrcSeesOneWrongSymbolButNoLeadingZeros := by
  refine ⟨fun pre post a b hab => ?_, fun n bs => ?_⟩
  · have hne : crcRaw (pre ++ a :: post) ≠ crcRaw (pre ++ b :: post) := mt crcRaw_symbol_inj.1 hab
    exact ⟨hne, fun ha hb => hne (ha.trans hb.symm)⟩
  · rw [crcRaw_append, crcRaw_replicate_zero]
    rfl

end Sys2Proof.Machine

/-! PROOFS. The statements about the encoder: its rows one by one (O19, O21 to O25), the functions (O33, O35), the frames that the
emit steps put on the wire (O43, O44), and the empty payload's frame at the decoder (O49). -/

namespace Sys2Proof.Machine

/-! ### Commands -/

theorem txCmdReady_iff (s : State) : s.txCmdReady = true ↔ s.tx.phase = .txIdle := by
  simp [State.txCmdReady]

theorem exec_txAccept_of_le {s : State} {len : BitVec 13} (x : BitVec 2) (hp : s.tx.phase = .txIdle)
    (hlen : len.toNat ≤ maxPayload) :
    exec (.txAccept len x) s =
      .next (s.acceptCommand { s.tx with rem := len.toNat, crc := crcInit, esc2 := none, phase := .txSof }) := by
  simp only [exec, execTxAccept]
  rw [if_pos ((txCmdReady_iff s).2 hp), if_neg (Nat.not_lt.2 hlen)]

theorem exec_txAccept_of_gt {s : State} {len : BitVec 13} (x : BitVec 2) (hp : s.tx.phase = .txIdle)
    (hlen : maxPayload < len.toNat) : exec (.txAccept len x) s = .next s.raiseTooLarge := by
  simp only [exec, execTxAccept]
  rw [if_pos ((txCmdReady_iff s).2 hp), if_pos hlen]

theorem exec_sendControl_idle {s : State} (x : BitVec 13) (k : Ctl) (hp : s.tx.phase = .txIdle) :
    exec (.sendControl x k) s = .next (s.acceptCommand { s.tx with ctl := k, idx := 0, phase := .txCtl }) := by
  simp only [exec, execSendControl]
  rw [if_pos ((txCmdReady_iff s).2 hp)]

/-- Settles O19: a command row in TxIdle, on both sides of the length limit. -/
theorem commandsAreAcceptedInTxIdle : Obligations.CommandsAreAcceptedInTxIdle :=
  fun _ => ⟨fun _ => exec_txAccept_of_le, fun _ => exec_txAccept_of_gt, exec_sendControl_idle⟩

/-! ### The emit steps, row by row -/

/-- The first wire byte of a symbol: ESC for a reserved one (R64). -/
def stuffHead (v : Byte) : Byte := if isReservedValue v then escByte else v

@[simp] theorem stuffHead_symbol (c : EscCode) : stuffHead c.symbol = escByte := by
  cases c <;> rfl

theorem stuffHead_plain {v : Byte} (h : (!isReservedValue v) = true) : stuffHead v = v :=
  if_neg (by simpa using h)

theorem stuffHead_eq_ite (v : Byte) : stuffHead v = if v = 0x00#8 ∨ v = 0xaa#8 ∨ v = 0xff#8 then 0xaa#8 else v := by
  simp [stuffHead, isReservedValue, or_assoc]

/-- The phase after the delimiter and after each payload symbol: `n` payload symbols are left (R118, R119). -/
def payloadPhase (n : Nat) : Phase := if n = 0 then .txCrc else .txData

theorem payloadPhase_eq_ite_pos (n : Nat) : payloadPhase n = if 0 < n then .txData else .txCrc := by
  cases n <;> rfl

section
variable {s : State}

theorem exec_txEsc2 {c : EscCode} (hp : s.tx.phase ≠ .txIdle) (hc : s.tx.esc2 = some c) :
    exec .txEsc2 s = .next { s with tx := { s.tx with esc2 := none }, txOut := s.txOut ++ [c.byte] } := by
  simp only [exec, execTxEsc2, hc]
  exact if_neg hp

theorem exec_txSof (hp : s.tx.phase = .txSof) (he : s.tx.esc2 = none) :
    exec .txSof s = .next { s with
      tx := { s.tx with phase := payloadPhase s.tx.rem }
      txOut := s.txOut ++ [sofByte] } := by
  rw [payloadPhase_eq_ite_pos]
  exact txRow_selected hp he

theorem exec_txData (b : Byte) (hp : s.tx.phase = .txData) (he : s.tx.esc2 = none) :
    exec (.txData b) s = .next { s with
      tx := { s.tx with
        crc := crcUpdate s.tx.crc b
        rem := s.tx.rem - 1
        phase := payloadPhase (s.tx.rem - 1)
        esc2 := escCodeOf b }
      txOut := s.txOut ++ [stuffHead b] } := by
  refine (txRow_selected hp he).trans ?_
  rw [emitSymbol_eq]
  simp only [he, Option.or_none]
  rfl

theorem exec_txCrc (hp : s.tx.phase = .txCrc) (he : s.tx.esc2 = none) :
    exec .txCrc s = .next { s with
      tx := { s.tx with phase := .txEof, esc2 := escCodeOf (s.tx.crc ^^^ crcXorOut) }
      txOut := s.txOut ++ [stuffHead (s.tx.crc ^^^ crcXorOut)] } := by
  refine (txRow_selected hp he).trans ?_
  rw [emitSymbol_eq]
  simp only [he, Option.or_none]
  rfl

theorem exec_txEof (hp : s.tx.phase = .txEof) (he : s.tx.esc2 = none) :
    exec .txEof s = .next { s with tx := { s.tx with phase := .txIdle }, txOut := s.txOut ++ [eofByte] } :=
  txRow_selected hp he

theorem exec_txCtl (hp : s.tx.phase = .txCtl) (he : s.tx.esc2 = none) :
    exec .txCtl s = .next { s with
      tx := if s.tx.idx = 4 then { s.tx with phase := .txIdle, idx := 0 } else { s.tx with idx := s.tx.idx + 1 }
      txOut := s.txOut ++ [ctlByte s.tx.ctl s.tx.idx] } :=
  txRow_selected hp he

end

/-- Settles O21: the statement's list of bytes is `EscCode.byte`. -/
theorem txEsc2EmitsThePendingCode : Obligations.TxEsc2EmitsThePendingCode :=
  fun _ _ => exec_txEsc2

/-- Settles O22: the phase is named by the symbols that are left. -/
theorem txSofEmitsTheDelimiter : Obligations.TxSofEmitsTheDelimiter := by
  intro s hp he
  rw [← payloadPhase_eq_ite_pos]
  exact exec_txSof hp he

/-- Settles O23: the byte emitted and the code left pending are those of the symbol. -/
theorem txDataEmitsOneSymbol : Obligations.TxDataEmitsOneSymbol := by
  intro s b hp he
  rw [← stuffHead_eq_ite]
  exact exec_txData b hp he

theorem xor_crcXorOut_eq_iff {c v : Byte} : c ^^^ crcXorOut = v ↔ c = v ^^^ crcXorOut := by
  constructor <;> rintro rfl <;> simp

theorem xor_crcXorOut_eq_reserved (c : Byte) :
    (c ^^^ crcXorOut = 0x00#8 ↔ c = 0xff#8) ∧ (c ^^^ crcXorOut = 0xaa#8 ↔ c = 0x55#8) ∧
      (c ^^^ crcXorOut = 0xff#8 ↔ c = 0x00#8) :=
  ⟨xor_crcXorOut_eq_iff, xor_crcXorOut_eq_iff, xor_crcXorOut_eq_iff⟩

/-- Settles O24: the checksum is reserved where the register is a reserved value XOR 0xff. -/
theorem txCrcEmitsTheChecksum : Obligations.TxCrcEmitsTheChecksum := by
  intro s hp he
  obtain ⟨h0, ha, hf⟩ := xor_crcXorOut_eq_reserved s.tx.crc
  rw [exec_txCrc hp he, stuffHead_eq_ite, escCodeOf]
  simp only [h0, ha, hf]
  rfl

/-- Settles O25: the row fires where it is selected. -/
theorem txEofEmitsTheDelimiter : Obligations.TxEofEmitsTheDelimiter :=
  fun _ => exec_txEof

/-! ### The functions -/

theorem stuff_eq_ite (v : Byte) :
    stuff v = if v = 0x00#8 then [0xaa#8, 0xab#8] else if v = 0xaa#8 then [0xaa#8, 0xac#8]
      else if v = 0xff#8 then [0xaa#8, 0xad#8] else [v] := by
  unfold stuff escCodeOf
  split_ifs <;> rfl

/-- Settles O33: ENCODE returns `frameBytes`, whose stuffing is the statement's. -/
theorem encodeReturnsTheFrame : Obligations.EncodeReturnsTheFrame := by
  intro s p
  have hexec : exec (.encodeFrame p) s =
      .next (s.answer (if maxPayload < p.length then .payloadTooLarge else .bytes (frameBytes p))) := rfl
  refine ⟨fun hlen => ?_, fun hlen => ?_⟩
  · rw [hexec, if_pos hlen]
    rfl
  · rw [hexec, if_neg (Nat.not_lt.2 hlen), frameBytes, funext stuff_eq_ite]
    rfl

/-- Settles O35: a function row returns one value from every state. -/
theorem functionRowsAreFunctionsOfTheirOperands : Obligations.FunctionRowsAreFunctionsOfTheirOperands :=
  fun _ => exec_function_row_uniform

/-! ### Runs -/

theorem runSteps_succ {n : Nat} {s t : State} (h : step s = .next t) : runSteps (n + 1) s = runSteps n t := by
  simp only [runSteps, h]

theorem runSteps_add {m : Nat} (n : Nat) {s t : State} (h : runSteps m s = .next t) :
    runSteps (m + n) s = runSteps n t := by
  induction m generalizing s with
  | zero =>
    cases h
    rw [Nat.zero_add]
  | succ m ih =>
    rw [Nat.succ_add]
    cases hs : step s with
    | next u =>
      rw [runSteps_succ hs] at h ⊢
      exact ih h
    | fault r => simp [runSteps, hs] at h
    | refused r => simp [runSteps, hs] at h

/-- With registers `x` and payload bytes `pl` on offer, `bs.length` emit turns put exactly `bs` on the wire and leave registers `y`
and payload bytes `ql`; nothing else changes, whatever the rest of the state. -/
def Sends (x : Tx) (pl bs : List Byte) (y : Tx) (ql : List Byte) : Prop :=
  ∀ (s : State) (ts : List Turn), s.tx = x → s.txPl = pl → s.turns = List.replicate bs.length .tx ++ ts →
    runSteps bs.length s = .next { s with tx := y, txPl := ql, txOut := s.txOut ++ bs, turns := ts }

theorem Sends.nil (x : Tx) (pl : List Byte) : Sends x pl [] x pl := by
  rintro s ts rfl rfl (rfl : s.turns = ts)
  simp [runSteps]

theorem Sends.append {x y z : Tx} {pl ql rl bs ds : List Byte} (h : Sends x pl bs y ql) (h' : Sends y ql ds z rl) :
    Sends x pl (bs ++ ds) z rl := by
  intro s ts hx hpl ht
  rw [List.length_append, List.replicate_add, List.append_assoc] at ht
  rw [List.length_append, runSteps_add _ (h s _ hx hpl ht), h' _ ts rfl rfl rfl, ← List.append_assoc]

/-- One emit turn: the row its selection decodes to, run with the payload byte taken in TxData (R30). -/
theorem Sends.byte {x y : Tx} {pl ql : List Byte} {b : Byte} (i : Instr)
    (hi : decodeTxStep ⟨x.phase, x.esc2.isSome, pl.head?⟩ = .ok i)
    (hq : ql = if x.phase = .txData ∧ x.esc2 = none then pl.tail else pl)
    (hexec : ∀ s : State, exec i { s with tx := x } = .next { s with tx := y, txOut := s.txOut ++ [b] }) :
    Sends x pl [b] y ql := by
  rintro s ts rfl rfl ht
  have hstep := step_tx_of_decode ht hi
  rw [← hq] at hstep
  exact runSteps_succ (hstep.trans (hexec { s with turns := ts, txPl := ql }))

section
variable {ph : Phase} {c : Byte} {n : Nat} {k : Ctl} {i : Fin 5} {pl ql : List Byte}

theorem sends_code (e : EscCode) (hp : ph ≠ .txIdle) :
    Sends ⟨ph, c, n, some e, k, i⟩ pl [e.byte] ⟨ph, c, n, none, k, i⟩ pl := by
  refine .byte .txEsc2 ?_ (by simp) fun s => exec_txEsc2 hp rfl
  cases ph with
  | txIdle => exact absurd rfl hp
  | _ => rfl

/-- A step that emits the first byte of a symbol and leaves its code pending, with the step that emits the code if there is one,
sends the stuffed symbol. -/
theorem Sends.symbol {x : Tx} {v : Byte} (hp : ph ≠ .txIdle)
    (h : Sends x pl [stuffHead v] ⟨ph, c, n, escCodeOf v, k, i⟩ ql) :
    Sends x pl (stuff v) ⟨ph, c, n, none, k, i⟩ ql := by
  obtain ⟨e, rfl⟩ | hv := reserved_or_plain v
  · rw [stuffHead_symbol, escCodeOf_eq_some_iff.2 rfl] at h
    rw [stuff_symbol]
    exact h.append (sends_code e hp)
  · rw [stuffHead_plain hv, escCodeOf_eq_none_iff.2 hv] at h
    rw [stuff_plain hv]
    exact h

theorem payloadPhase_ne_txIdle : payloadPhase n ≠ .txIdle := by
  cases n <;> simp [payloadPhase]

theorem sends_sof : Sends ⟨.txSof, c, n, none, k, i⟩ pl [sofByte] ⟨payloadPhase n, c, n, none, k, i⟩ pl :=
  .byte .txSof rfl rfl fun _ => exec_txSof rfl rfl

theorem sends_data (b : Byte) :
    Sends ⟨.txData, c, n + 1, none, k, i⟩ (b :: pl) (stuff b) ⟨payloadPhase n, crcUpdate c b, n, none, k, i⟩ pl :=
  .symbol payloadPhase_ne_txIdle <| .byte (.txData b) rfl rfl fun _ => exec_txData b rfl rfl

theorem sends_crc :
    Sends ⟨.txCrc, c, n, none, k, i⟩ pl (stuff (c ^^^ crcXorOut)) ⟨.txEof, c, n, none, k, i⟩ pl :=
  .symbol (by simp) <| .byte .txCrc rfl rfl fun _ => exec_txCrc rfl rfl

theorem sends_eof : Sends ⟨.txEof, c, n, none, k, i⟩ pl [eofByte] ⟨.txIdle, c, n, none, k, i⟩ pl :=
  .byte .txEof rfl rfl fun _ => exec_txEof rfl rfl

theorem sends_ctl (hi : i ≠ 4) :
    Sends ⟨.txCtl, c, n, none, k, i⟩ pl [ctlByte k i] ⟨.txCtl, c, n, none, k, i + 1⟩ pl :=
  .byte .txCtl rfl rfl fun _ => (exec_txCtl rfl rfl).trans (by rw [if_neg hi])

theorem sends_ctl_last : Sends ⟨.txCtl, c, n, none, k, 4⟩ pl [ctlByte k 4] ⟨.txIdle, c, n, none, k, 0⟩ pl :=
  .byte .txCtl rfl rfl fun _ => exec_txCtl rfl rfl

theorem ctlBytes_eq (k : Ctl) : ctlBytes k = [ctlByte k 0, ctlByte k 1, ctlByte k 2, ctlByte k 3, ctlByte k 4] := by
  cases k <;> rfl

/-- R177: the index runs over the five bytes of the row. -/
theorem sends_control : Sends ⟨.txCtl, c, n, none, k, 0⟩ pl (ctlBytes k) ⟨.txIdle, c, n, none, k, 0⟩ pl := by
  rw [ctlBytes_eq]
  have emit (j : Fin 5) (hj : j ≠ 4) := sends_ctl (c := c) (n := n) (k := k) (pl := pl) hj
  exact (emit 0 (by decide)).append <| (emit 1 (by decide)).append <| (emit 2 (by decide)).append <|
    (emit 3 (by decide)).append sends_ctl_last

/-- The payload symbols, one after the other; with none to send the encoder is in TxCrc already (R118). -/
theorem sends_payload (p : List Byte) :
    Sends ⟨payloadPhase p.length, c, p.length, none, k, i⟩ (p ++ pl) (p.flatMap stuff)
      ⟨.txCrc, crcFrom c p, 0, none, k, i⟩ pl := by
  induction p generalizing c with
  | nil => exact .nil _ pl
  | cons b p ih =>
    rw [List.flatMap_cons, crcFrom_cons]
    exact (sends_data b).append ih

/-- R122: from the accepted command on, the emit steps send `encode(p)`. -/
theorem sends_frame (p : List Byte) :
    Sends ⟨.txSof, crcInit, p.length, none, k, i⟩ (p ++ pl) (frameBytes p) ⟨.txIdle, crcRaw p, 0, none, k, i⟩ pl := by
  have hframe : frameBytes p = [sofByte] ++ (p.flatMap stuff ++ (stuff (computeCrc p) ++ [eofByte])) := by
    simp [frameBytes]
  rw [hframe]
  exact sends_sof.append <| (sends_payload p).append <| sends_crc.append sends_eof

end

/-! ### A command and the frame it sends -/

theorem decodeCmd_sendPayload {w : BitVec 16} (hkind : w.extractLsb' 15 1 = 0#1) :
    decodeCmd w = .ok (.txAccept (w.extractLsb' 2 13) (w.extractLsb' 0 2)) :=
  if_pos hkind

theorem decodeCmd_sendControl {w : BitVec 16} {k : Ctl} (hkind : w.extractLsb' 15 1 = 1#1)
    (hctl : w.extractLsb' 0 2 = k.code) : decodeCmd w = .ok (.sendControl (w.extractLsb' 2 13) k) := by
  cases k <;> simp [decodeCmd, hkind, hctl, Ctl.code]

theorem step_cmd_of_decode {s : State} {ts : List Turn} {w : BitVec 16} {ws : List (BitVec 16)} {i : Instr}
    (ht : s.turns = .cmd :: ts) (hw : s.txCmd = w :: ws) (hp : s.tx.phase = .txIdle) (hd : decodeCmd w = .ok i) :
    step s = exec i { s with turns := ts, txCmd := ws } := by
  rw [step_cmd_taken ht hw hp, hd]

/-- Settles O43: the command leaves the registers that `sends_frame` starts from. -/
theorem streamedFrameIsEncode : Obligations.StreamedFrameIsEncode := by
  intro s p rest w ws ts hp hlen hpl hcmd hkind hw ht
  have hstep := (step_cmd_of_decode ht hcmd hp (decodeCmd_sendPayload hkind)).trans
    (exec_txAccept_of_le _ hp (hw.trans_le hlen))
  rw [Nat.add_comm, runSteps_succ hstep, hw]
  exact sends_frame p _ ts rfl hpl rfl

/-- Settles O44: the command leaves the registers that `sends_control` starts from. -/
theorem controlFrameIsEmittedWhole : Obligations.ControlFrameIsEmittedWhole := by
  intro s k w ws ts hp he hcmd hkind hctl ht
  have hstep := (step_cmd_of_decode ht hcmd hp (decodeCmd_sendControl hkind hctl)).trans (exec_sendControl_idle _ k hp)
  have hsends := sends_control (c := s.tx.crc) (n := s.tx.rem) (k := k) (pl := s.txPl)
  rw [← hp, ← he, ctlBytes_eq] at hsends
  rw [runSteps_succ hstep, ctlBytes_eq]
  exact hsends _ ts rfl rfl rfl

/-! ### The empty payload's frame at the decoder -/

theorem rxFeed_append (as bs : List Byte) (s : State) : rxFeed (as ++ bs) s = rxFeed bs (rxFeed as s) := by
  induction as generalizing s with
  | nil => rfl
  | cons a as ih => exact ih _

/-- A `SOF` opens a fresh frame, in Idle and under `ESC_THEN_SOF = restart` in Framing too (R141, R142); only the label depends on
what was there. -/
theorem rxStep_sof {s : State} (h : s.rx.mode = .idle ∨ s.cfg.escThenSof = .restart) :
    ∃ d, rxStep sofByte s = { s with rx := Rx.fresh, rxDiag := d } := by
  cases hm : s.rx.mode with
  | idle =>
    rw [rxStep_idle _ ((inIdle_iff s).2 hm), if_pos rfl]
    exact ⟨none, rfl⟩
  | framing =>
    have hrestart : s.cfg.escThenSof = .restart := h.resolve_left (by simp [hm])
    refine ⟨_, Eq.trans ?_ (restartFrame_eq s)⟩
    simp [rxStep, hm, hrestart]

/-- In an open frame with room the bytes of a stuffed symbol append the symbol (R144, R145, R149). -/
theorem rxFeed_stuff {s : State} (v : Byte) (hf : s.inFraming = true) (hroom : s.accFull = false) :
    rxFeed (stuff v) s = (s.rxNext (s.rx.append v)).acknowledge := by
  obtain ⟨hm, he⟩ := (inFraming_iff s).1 hf
  obtain ⟨c, rfl⟩ | hv := reserved_or_plain v
  · have hesc : (s.openEscape.acknowledge).inFramingEsc = true := (inFramingEsc_iff _).2 ⟨hm, rfl⟩
    have hopen : rxStep escByte s = s.openEscape := rxStep_framing _ hf
    have hcode : rxStep c.byte s.openEscape.acknowledge = s.openEscape.acknowledge.takeEscaped c := by
      rw [rxStep_framingEsc _ hesc]
      cases c <;> rfl
    have hrx : (s.rx.setEsc.append c.symbol).clearEsc = s.rx.append c.symbol := by
      simp [Rx.setEsc, Rx.append, Rx.clearEsc, he]
    rw [stuff_symbol, rxFeed, rxFeed, rxFeed, hopen, hcode, takeEscaped_of_room (s := s.openEscape.acknowledge) c hroom]
    exact congrArg (fun r => (s.rxNext r).acknowledge) hrx
  · rw [stuff_plain hv, rxFeed, rxFeed, rxStep_framing_data hf hv, takeData_of_room v hroom]

/-- A legal capacity has room for a payload of 4096 bytes with its checksum (R4, R14). -/
theorem accFull_eq_false_of_wf {s : State} (hwf : s.cfg.wf = true) (hlen : s.rx.len ≤ maxPayload) : s.accFull = false := by
  rw [Bool.eq_false_iff, Ne, accFull_iff]
  intro hcap
  simp only [Config.wf, hcap, decide_eq_true_eq] at hwf
  exact absurd (hwf.trans hlen) (by decide)

/-- The drop is decided by the length before the checksum (R148). -/
theorem rxStep_eof_tooShort {s : State} (hf : s.inFraming = true) (hlen : s.rx.len < minAcc) :
    rxStep eofByte s = s.drop .tooShort := by
  have hvalid : s.frameValid = false := by simp [State.frameValid, hlen]
  rw [rxStep_framing _ hf, hvalid, State.discardFrame, if_pos hlen]
  rfl

/-- R124: one symbol, the checksum, between the delimiters. -/
theorem frameBytes_nil : frameBytes [] = sofByte :: (stuff (computeCrc []) ++ [eofByte]) := rfl

/-- Settles O49: the accumulator holds the checksum alone when the frame ends. -/
theorem emptyPayloadIsDropped : Obligations.EmptyPayloadIsDropped := by
  refine ⟨rfl, fun s hwf _ h => ?_⟩
  obtain ⟨d, hsof⟩ := rxStep_sof h
  have hroom : ({ s with rx := Rx.fresh, rxDiag := d } : State).acknowledge.accFull = false :=
    accFull_eq_false_of_wf hwf (Nat.zero_le _)
  rw [frameBytes_nil, rxFeed, hsof, rxFeed_append, rxFeed_stuff _ rfl hroom, rxFeed, rxFeed,
    rxStep_eof_tooShort rfl (by simp [Rx.len])]
  exact ⟨rfl, rfl⟩

end Sys2Proof.Machine

/-! PROOFS. The statements about the decoder: its rows one by one (O6 to O15), that every step answers (O5) and delivers checked
payloads only (O58), and what it makes of a stream (O45 to O48, O50, O51). -/

namespace Sys2Proof.Machine

/-! ### The rows of Idle -/

/-- Settles O6: the row fires where it is selected. -/
theorem rxIdleSofOpensAFrame : Obligations.RxIdleSofOpensAFrame :=
  fun s hr hm => rxRow_selected hr ((inIdle_iff s).2 hm)

/-- Settles O7: the six rows are one meaning. -/
theorem rxIdleBytesAreIgnored : Obligations.RxIdleBytesAreIgnored := by
  intro s i hr hm hi
  have ignored : s.rxRow s.inIdle s.ignoreByte = .next s.ignoreByte := rxRow_selected hr ((inIdle_iff s).2 hm)
  simp only [List.mem_cons, List.not_mem_nil, or_false] at hi
  rcases hi with (rfl | rfl | rfl | rfl | rfl) | ⟨d, rfl⟩ <;> exact ignored

/-! ### The rows of Framing that no capacity stops -/

/-- Settles O8: the label's condition with and without an escape pending. -/
theorem rxSofRestartsTheFrame : Obligations.RxSofRestartsTheFrame := by
  intro s hr hm
  refine ⟨fun he => ?plain, fun he hcfg => ?restart, fun he hcfg => ?abort⟩
  case plain =>
    have hexec : exec .rxFramingSof s = .next s.restartFrame := rxRow_selected hr ((inFraming_iff s).2 ⟨hm, he⟩)
    rw [hexec, restartFrame_eq]
    simp [he, List.length_pos_iff, Rx.fresh, crcInit]
  all_goals
    refine (rxRow_selected hr ((inFramingEsc_iff s).2 ⟨hm, he⟩)).trans ?_
    rw [hcfg]
  case restart =>
    simp only [restartFrame_eq, he, or_true, if_true]
    rfl
  case abort => rfl

/-- Settles O9: the parameter chooses the effect only with an escape pending. -/
theorem rxEscapeMarkerSetsTheFlag : Obligations.RxEscapeMarkerSetsTheFlag := by
  intro s hr hm
  refine ⟨fun he => rxRow_selected hr ((inFraming_iff s).2 ⟨hm, he⟩), fun he hcfg => ?_, fun he hcfg => ?_⟩
  all_goals
    refine (rxRow_selected hr ((inFramingEsc_iff s).2 ⟨hm, he⟩)).trans ?_
    rw [hcfg]
    rfl

/-- Settles O11: two rows abort always, two by their parameter. -/
theorem rxMalformedEscapeAborts : Obligations.RxMalformedEscapeAborts := by
  intro s i hr hm he hi
  have hs := (inFramingEsc_iff s).2 ⟨hm, he⟩
  rcases hi with rfl | ⟨d, rfl⟩ | ⟨rfl, hcfg⟩ | ⟨rfl, hcfg⟩
  · exact rxRow_selected hr hs
  · exact rxRow_selected hr hs
  all_goals
    refine (rxRow_selected hr hs).trans ?_
    rw [hcfg]
    rfl

/-! ### The end of a frame -/

theorem frameValid_iff (s : State) : s.frameValid = true ↔ minAcc ≤ s.rx.len ∧ s.rx.crc = crcResidue := by
  simp [State.frameValid]

/-- Settles O12: what the statement takes of the accumulator is all but the last byte. -/
theorem rxValidFrameIsDelivered : Obligations.RxValidFrameIsDelivered := by
  intro s hr hm he hlen hcrc
  have hs : (s.inFraming && s.frameValid) = true :=
    (Bool.and_eq_true _ _).mpr ⟨(inFraming_iff s).2 ⟨hm, he⟩, (frameValid_iff s).2 ⟨hlen, hcrc⟩⟩
  rw [← List.dropLast_eq_take]
  exact rxRow_selected hr hs

/-- Settles O13: the statement's condition is that the frame is not valid. -/
theorem rxInvalidFrameIsDropped : Obligations.RxInvalidFrameIsDropped := by
  intro s hr hm he hinvalid
  have hv : s.frameValid = false := by
    rw [Bool.eq_false_iff, Ne, frameValid_iff, not_and_or, not_le, minAcc, Nat.lt_succ_iff]
    exact hinvalid
  have hexec : exec .rxFramingEofInvalid s = .next s.discardFrame :=
    rxRow_selected hr (by rw [(inFraming_iff s).2 ⟨hm, he⟩, hv]; rfl)
  rw [hexec, discardFrame_eq]
  simp only [minAcc, Nat.lt_succ_iff]
  rfl

/-! ### The rows that append -/

theorem accFull_eq_false_iff (s : State) : s.accFull = false ↔ s.cfg.accCap ≠ some s.rx.len := by
  rw [Bool.eq_false_iff, Ne, accFull_iff]

/-- Settles O14: with room every data row appends its byte. -/
theorem rxDataIsFoldedAndAppended : Obligations.RxDataIsFoldedAndAppended := by
  intro s i v hr hm he hroom hi
  have hs := (inFraming_iff s).2 ⟨hm, he⟩
  have hexec : exec i s = .next (s.takeData v) := by
    simp only [List.mem_cons, List.not_mem_nil, or_false, Prod.mk.injEq] at hi
    rcases hi with (⟨rfl, rfl⟩ | ⟨rfl, rfl⟩ | ⟨rfl, rfl⟩) | rfl <;> exact rxRow_selected hr hs
  rw [hexec, takeData_of_room v ((accFull_eq_false_iff s).2 hroom)]
  simp only [State.rxNext, Rx.append, hm, he]

/-- A code row is one of the three codes' symbols taken. -/
theorem exec_code_row {s : State} {i : Instr} {v : Byte} (hr : s.rxOut = none) (hm : s.rx.mode = .framing)
    (he : s.rx.esc = true)
    (hi : (i, v) ∈ [(Instr.rxFramingEscX00, 0x00#8), (.rxFramingEscXaa, 0xaa#8), (.rxFramingEscXff, 0xff#8)]) :
    ∃ c : EscCode, v = c.symbol ∧ exec i s = .next (s.takeEscaped c) := by
  have hs := (inFramingEsc_iff s).2 ⟨hm, he⟩
  simp only [List.mem_cons, List.not_mem_nil, or_false, Prod.mk.injEq] at hi
  rcases hi with ⟨rfl, rfl⟩ | ⟨rfl, rfl⟩ | ⟨rfl, rfl⟩
  · exact ⟨.x00, rfl, rxRow_selected hr hs⟩
  · exact ⟨.xaa, rfl, rxRow_selected hr hs⟩
  · exact ⟨.xff, rfl, rxRow_selected hr hs⟩

/-- Settles O10: the code's symbol is taken, with room and without. -/
theorem rxCodeIsUnstuffed : Obligations.RxCodeIsUnstuffed := by
  intro s i v hr hm he hi
  obtain ⟨c, rfl, hexec⟩ := exec_code_row hr hm he hi
  refine ⟨fun hroom => ?_, fun hfull => ?_⟩
  · rw [hexec, takeEscaped_of_room c ((accFull_eq_false_iff s).2 hroom)]
    simp only [State.rxNext, Rx.append, Rx.clearEsc, hm]
  · rw [hexec, takeEscaped_of_full c ((accFull_iff s).2 hfull)]
    rfl

/-- Settles O15: the overflow row is selected by its byte, the others by the state, and drop when full. -/
theorem rxOverflowDropsTheFrame : Obligations.RxOverflowDropsTheFrame := by
  intro s i hr hm hcap hi
  have hfull := (accFull_iff s).2 hcap
  have overflow {d : Byte} (hd : s.appends d = true) : exec (.rxFramingOverflow d) s = .next (s.drop .overflow) :=
    rxRow_selected hr ((Bool.and_eq_true _ _).mpr ⟨hfull, hd⟩)
  change exec i s = .next (s.drop .overflow)
  simp only [List.mem_cons, List.not_mem_nil, or_false] at hi
  rcases hi with ⟨he, hi⟩ | ⟨he, hi⟩
  · have hs := (inFraming_iff s).2 ⟨hm, he⟩
    have data (v : Byte) : s.rxRow s.inFraming (s.takeData v) = .next (s.drop .overflow) := by
      rw [rxRow_selected hr hs, takeData_of_full v hfull]
    rcases hi with (rfl | rfl | rfl) | ⟨d, rfl⟩ | ⟨d, rfl, hd⟩
    · exact data _
    · exact data _
    · exact data _
    · exact data d
    · exact overflow (by simp [State.appends, hm, he, not_isReservedValue_iff.2 hd])
  · have hs := (inFramingEsc_iff s).2 ⟨hm, he⟩
    have code (c : EscCode) : s.rxRow s.inFramingEsc (s.takeEscaped c) = .next (s.drop .overflow) := by
      rw [rxRow_selected hr hs, takeEscaped_of_full c hfull]
    rcases hi with rfl | rfl | rfl | rfl | rfl | rfl
    · exact code .x00
    · exact code .xaa
    · exact code .xff
    all_goals exact overflow (by simp [State.appends, hm, he])


/-! ### Every step answers -/

/-- The one command pattern that is no row is code 3 (U5). -/
theorem decodeCmd_eq_error {w : BitVec 16} {e : DecodeError} (h : decodeCmd w = .error e) :
    e = .controlCode3 ∧ w.extractLsb' 15 1 = 1#1 ∧ w.extractLsb' 0 2 = 3#2 := by
  have hone : ∀ b : BitVec 1, b ≠ 0#1 → b = 1#1 := by decide
  have hthree : ∀ c : BitVec 2, c ≠ 0#2 → c ≠ 1#2 → c ≠ 2#2 → c = 3#2 := by decide
  unfold decodeCmd at h
  split_ifs at h with hkind h0 h1 h2
  cases h
  exact ⟨rfl, hone _ hkind, hthree _ h0 h1 h2⟩

theorem decodeCmd_controlCode3 {w : BitVec 16} (hkind : w.extractLsb' 15 1 = 1#1) (hctl : w.extractLsb' 0 2 = 3#2) :
    decodeCmd w = .error .controlCode3 := by
  simp [decodeCmd, hkind, hctl]

/-- The calls that are no row name a control frame by other bytes (R71). -/
theorem decodeCall_eq_error {f : FunCall} {e : DecodeError} (h : decodeCall f = .error e) :
    e = .notAControlFrame ∧ ∃ bs, f = .frame bs ∧ ∀ k, bs ≠ ctlBytes k := by
  cases f with
  | frame bs =>
    simp only [decodeCall, decodeCtlFrame] at h
    split_ifs at h with hbase hradio htelem
    cases h
    exact ⟨rfl, bs, rfl, fun k => by cases k <;> assumption⟩
  | encode | crcGen | crcUpd | crcRaw | crcFin | crcChk | stuff => cases h

theorem decodeTxStep_eq_error {v : TxView} {e : DecodeError} (h : decodeTxStep v = .error e) : e = .noStep := by
  unfold decodeTxStep at h
  repeat' split at h
  all_goals cases h
  all_goals rfl

/-- A command always answers: accepted or refused as too long in TxIdle, else waiting. -/
theorem exec_txAccept_answers (len : BitVec 13) (x : BitVec 2) (s : State) : ∃ t, exec (.txAccept len x) s = .next t := by
  by_cases hp : s.tx.phase = .txIdle
  · rcases Nat.lt_or_ge maxPayload len.toNat with hlen | hlen
    · exact ⟨_, exec_txAccept_of_gt x hp hlen⟩
    · exact ⟨_, exec_txAccept_of_le x hp hlen⟩
  · exact ⟨_, (exec_command_busy hp).1 len x⟩

theorem exec_sendControl_answers (x : BitVec 13) (k : Ctl) (s : State) : ∃ t, exec (.sendControl x k) s = .next t := by
  by_cases hp : s.tx.phase = .txIdle
  · exact ⟨_, exec_sendControl_idle x k hp⟩
  · exact ⟨_, (exec_command_busy hp).2 x k⟩

theorem exec_decodeCmd {w : BitVec 16} {i : Instr} (h : decodeCmd w = .ok i) (s : State) : ∃ t, exec i s = .next t := by
  unfold decodeCmd at h
  split_ifs at h
  · cases h; exact exec_txAccept_answers _ _ s
  all_goals cases h; exact exec_sendControl_answers _ _ s

/-- The emit step that the registers select answers in them. -/
theorem exec_decodeTxStep {s : State} {offered : Option Byte} {i : Instr}
    (h : decodeTxStep ⟨s.tx.phase, s.tx.esc2.isSome, offered⟩ = .ok i) : ∃ t, exec i s = .next t := by
  cases he : s.tx.esc2 with
  | some c =>
    rw [he] at h
    cases hp : s.tx.phase with
    | txIdle => rw [hp] at h; cases h
    | txSof | txData | txCrc | txEof | txCtl => rw [hp] at h; cases h; exact ⟨_, exec_txEsc2 (by simp [hp]) he⟩
  | none =>
    rw [he] at h
    cases hp : s.tx.phase with
    | txIdle => rw [hp] at h; cases h
    | txSof => rw [hp] at h; cases h; exact ⟨_, exec_txSof hp he⟩
    | txData =>
      rw [hp] at h
      cases offered with
      | none => cases h
      | some b => cases h; exact ⟨_, exec_txData b hp he⟩
    | txCrc => rw [hp] at h; cases h; exact ⟨_, exec_txCrc hp he⟩
    | txEof => rw [hp] at h; cases h; exact ⟨_, exec_txEof hp he⟩
    | txCtl => rw [hp] at h; cases h; exact ⟨_, exec_txCtl hp he⟩

theorem step_rx_answers {s : State} {ts : List Turn} (ht : s.turns = .rx :: ts) : ∃ t, step s = .next t := by
  cases hb : s.rxIn with
  | nil => exact ⟨_, step_rx_waits ht (.inl hb)⟩
  | cons b bs =>
    by_cases hr : s.rxOut = none
    · rw [step_rx_taken ht hb hr]
      exact exec_decodeRx (s := { s with turns := ts, rxIn := bs }) b hr
    · exact ⟨_, step_rx_waits ht (.inr hr)⟩

theorem step_cmd_answers {s : State} {ts : List Turn} (ht : s.turns = .cmd :: ts) :
    (∃ t, step s = .next t) ∨
    (step s = .refused .controlCode3 ∧ ∃ w ws, s.txCmd = w :: ws ∧ w.extractLsb' 15 1 = 1#1 ∧ w.extractLsb' 0 2 = 3#2) := by
  cases hw : s.txCmd with
  | nil => exact .inl ⟨_, step_cmd_waits ht (.inl hw)⟩
  | cons w ws =>
    by_cases hp : s.tx.phase = .txIdle
    · rw [step_cmd_taken ht hw hp]
      cases hd : decodeCmd w with
      | ok i => exact .inl (exec_decodeCmd hd _)
      | error e =>
        obtain ⟨rfl, hkind, hctl⟩ := decodeCmd_eq_error hd
        exact .inr ⟨rfl, w, ws, rfl, hkind, hctl⟩
    · exact .inl ⟨_, step_cmd_waits ht (.inr hp)⟩

theorem step_tx_answers {s : State} {ts : List Turn} (ht : s.turns = .tx :: ts) : ∃ t, step s = .next t := by
  cases hd : decodeTxStep s.txView with
  | ok i =>
    rw [step_tx_of_decode ht hd]
    exact exec_decodeTxStep hd
  | error e =>
    rw [step_tx ht, hd, decodeTxStep_eq_error hd]
    exact ⟨_, rfl⟩

theorem step_call_answers {s : State} {f : FunCall} {ts : List Turn} (ht : s.turns = .call f :: ts) :
    (∃ t, step s = .next t) ∨ (step s = .refused .notAControlFrame ∧ ∃ bs, f = .frame bs ∧ ∀ k, bs ≠ ctlBytes k) := by
  rw [step_call ht]
  cases hd : decodeCall f with
  | ok i =>
    obtain ⟨r, hexec⟩ := exec_function_row { s with turns := ts } (decodeCall_kind hd)
    exact .inl ⟨_, hexec⟩
  | error e =>
    obtain ⟨rfl, hbs⟩ := decodeCall_eq_error hd
    exact .inr ⟨rfl, hbs⟩

/-- Settles O5: turn by turn. -/
theorem stepAlwaysAnswers : Obligations.StepAlwaysAnswers := by
  refine ⟨fun s => ?answers, fun s ts w ws ht hw hp hkind hctl => ?code3⟩
  case answers =>
    cases ht : s.turns with
    | nil => exact .inl ⟨_, step_no_turn ht⟩
    | cons u ts =>
      cases u with
      | rx => exact .inl (step_rx_answers ht)
      | ack => exact .inl ⟨_, step_ack ht⟩
      | cmd =>
        exact (step_cmd_answers ht).imp_right fun ⟨hstep, w, ws, hw, hcode⟩ => .inl ⟨hstep, w, ws, ts, rfl, hw, hcode⟩
      | tx => exact .inl (step_tx_answers ht)
      | call f =>
        exact (step_call_answers ht).imp_right fun ⟨hstep, bs, hf, hbs⟩ => .inr ⟨hstep, bs, ts, hf ▸ rfl, hbs⟩
      | rst => exact .inl ⟨_, step_rst ht⟩
  case code3 => rw [step_cmd_taken ht hw hp, decodeCmd_controlCode3 hkind hctl]

/-! ### What a delivery is -/

/-- A valid frame's accumulator is its payload and the payload's checksum (R13, R96). -/
theorem acc_eq_of_frameValid {s : State} (hinv : RxInv s) (hm : s.rx.mode = .framing) (hv : s.frameValid = true) :
    s.rx.acc = s.rx.acc.dropLast ++ [computeCrc s.rx.acc.dropLast] := by
  obtain ⟨-, hraw, -⟩ := hinv
  obtain ⟨hlen, hcrc⟩ := (frameValid_iff s).1 hv
  have hne : s.rx.acc ≠ [] := List.ne_nil_of_length_pos (Nat.zero_lt_two.trans_le hlen)
  have hlast := List.dropLast_append_getLast hne
  have hresidue : crcRaw (s.rx.acc.dropLast ++ [s.rx.acc.getLast hne]) = crcResidue := by
    rw [hlast, ← hraw hm, hcrc]
  rw [← (crcRaw_concat_eq_residue_iff _ _).1 hresidue, hlast]

/-- Settles O58: only a wire byte that ends a valid frame delivers. -/
theorem onlyCheckedPayloadsAreDelivered : Obligations.OnlyCheckedPayloadsAreDelivered := by
  intro s t hinv h
  obtain ⟨-, hrx, -, -⟩ := hinv
  cases step_effect h with
  | unscheduled | wait | ack | rst | call => exact .inl rfl
  | cmd _ _ _ _ _ _ _ he | tx _ _ _ _ _ he => exact .inl (by rw [he.frame])
  | rx ts b bs _ _ _ _ he =>
    cases he with
    | held | fresh | ignore | escape | append | dropped => exact .inl rfl
    | deliver _ hm hv =>
      exact .inr ⟨s.rx.acc.dropLast, dropLast_ne_nil_of_frameValid hv, hm, acc_eq_of_frameValid hrx hm hv, rfl, rfl⟩


/-! ### Steps over a stream -/

/-- With no payload held the chain does what a row of the table can do. -/
theorem rxStep_effect {s : State} (b : Byte) (hr : s.rxOut = none) : RxEffect s (rxStep b s) :=
  exec_rx_effect (decodeRx_kind _ _) (rxRowsAreTheFirstMatch.1 s b hr)

/-- The state with other bytes on the link and another schedule. -/
def State.withQueue (s : State) (bs : List Byte) (ts : List Turn) : State := { s with rxIn := bs, turns := ts }

section
variable (s : State) (bs : List Byte) (ts : List Turn)

/-- The chain does not look at what the link still holds, nor at the schedule. -/
theorem rxStep_withQueue (b : Byte) : rxStep b (s.withQueue bs ts) = (rxStep b s).withQueue bs ts := by
  simp only [rxStep, State.restartFrame, State.discardFrame, State.takeData, State.takeEscaped,
    apply_ite (State.withQueue · bs ts)]
  rfl

theorem rxFeed_withQueue (as : List Byte) : rxFeed as (s.withQueue bs ts) = (rxFeed as s).withQueue bs ts := by
  induction as generalizing s with
  | nil => rfl
  | cons a as ih =>
    rw [rxFeed, rxFeed, rxStep_withQueue]
    exact ih (rxStep a s).acknowledge

end

/-- A byte taken and acknowledged is one turn of the fold. -/
theorem runSteps_rx_ack {s : State} {b : Byte} {bs : List Byte} {ts : List Turn} (hr : s.rxOut = none)
    (hb : s.rxIn = b :: bs) (ht : s.turns = .rx :: .ack :: ts) :
    runSteps 2 s = .next ((rxStep b s).acknowledge.withQueue bs ts) := by
  have hrx : step s = .next (rxStep b (s.withQueue bs (.ack :: ts))) :=
    (step_rx_taken ht hb hr).trans (rxRowsAreTheFirstMatch.1 (s.withQueue bs (.ack :: ts)) b hr)
  rw [rxStep_withQueue] at hrx
  rw [runSteps_succ hrx, runSteps_succ (step_ack rfl)]
  rfl

/-- Settles O45: by induction on the bytes; the fold does not read what the steps consume. -/
theorem stepsOverAStreamAreTheFold : Obligations.StepsOverAStreamAreTheFold := by
  intro s bs rest ts hr hin ht
  induction bs generalizing s with
  | nil =>
    change s.rxIn = rest at hin
    change s.turns = ts at ht
    rw [← hin, ← ht]
    rfl
  | cons b bs ih =>
    rw [List.length_cons, Nat.mul_succ, Nat.add_comm, runSteps_add _ (runSteps_rx_ack hr hin ht), ih _ rfl rfl rfl,
      rxFeed_withQueue]
    rfl

/-! ### Streams -/

theorem acknowledge_eq_self {s : State} (hr : s.rxOut = none) : s.acknowledge = s := by
  rw [State.acknowledge, ← hr]

/-- A byte that delivers nothing leaves nothing to acknowledge. -/
theorem rxFeed_cons {s t : State} {b : Byte} (bs : List Byte) (hstep : rxStep b s = t) (ht : t.rxOut = none) :
    rxFeed (b :: bs) s = rxFeed bs t := by
  rw [rxFeed, hstep, acknowledge_eq_self ht]

/-- A stream changes no parameter and leaves no payload on offer. -/
theorem rxFeed_keeps {s : State} (bs : List Byte) (hr : s.rxOut = none) :
    (rxFeed bs s).cfg = s.cfg ∧ (rxFeed bs s).rxOut = none := by
  induction bs generalizing s with
  | nil => exact ⟨rfl, hr⟩
  | cons b bs ih =>
    obtain ⟨hcfg, hout⟩ := ih (s := (rxStep b s).acknowledge) rfl
    exact ⟨hcfg.trans (rxStep_effect b hr).cfg_eq, hout⟩

/-- The decoder's registers and label replaced. -/
def State.withRx (s : State) (r : Rx) (d : Option Drop) : State := { s with rx := r, rxDiag := d }

/-- In Idle every byte but `SOF` is ignored (R143). -/
theorem rxFeed_idle {s : State} {bs : List Byte} (hm : s.rx.mode = .idle) (hr : s.rxOut = none) (hbs : sofByte ∉ bs) :
    ∃ d, rxFeed bs s = s.withRx s.rx d := by
  induction bs generalizing s with
  | nil => exact ⟨s.rxDiag, rfl⟩
  | cons b bs ih =>
    rw [List.mem_cons, not_or] at hbs
    have hstep : rxStep b s = s.ignoreByte := (rxStep_idle b ((inIdle_iff s).2 hm)).trans (if_neg (Ne.symm hbs.1))
    rw [rxFeed_cons bs hstep hr]
    exact ih (s := s.ignoreByte) hm hr hbs.2

/-- After a malformed escape the rest of the frame is ignored (R146). -/
theorem rxFeed_malformed {s : State} {b : Byte} {bs : List Byte} (hr : s.rxOut = none)
    (hstep : rxStep b s = s.drop .malformedEscape) (hbs : sofByte ∉ bs) :
    ∃ d, rxFeed (b :: bs) s = s.withRx Rx.canonicalIdle d := by
  rw [rxFeed_cons bs hstep hr]
  exact rxFeed_idle (s := s.drop .malformedEscape) rfl hr hbs

section
variable {s : State} (hr : s.rxOut = none) (h : s.rx.mode = .idle ∨ s.cfg.escThenSof = .restart)
include hr h

theorem rxFeed_sof : ∃ d, ∀ bs, rxFeed (sofByte :: bs) s = rxFeed bs (s.withRx Rx.fresh d) := by
  obtain ⟨d, hsof⟩ := rxStep_sof h
  exact ⟨d, fun bs => rxFeed_cons bs hsof hr⟩

/-- A `SOF` and an escape marker leave an empty frame with the escape pending. -/
theorem rxFeed_sof_esc (bs : List Byte) :
    rxFeed (sofByte :: escByte :: bs) s = rxFeed bs (s.withRx Rx.fresh.setEsc none) := by
  obtain ⟨d, hsof⟩ := rxFeed_sof hr h
  have hesc : rxStep escByte (s.withRx Rx.fresh d) = s.withRx Rx.fresh.setEsc none := rxStep_framing _ rfl
  rw [hsof, rxFeed_cons bs hesc hr]

end

/-! ### The symbols of a frame -/

theorem foldl_append_eq (r : Rx) (vs : List Byte) :
    vs.foldl Rx.append r = { r with crc := crcFrom r.crc vs, acc := r.acc ++ vs } := by
  induction vs generalizing r with
  | nil => simp
  | cons v vs ih => simp [ih, Rx.append]

/-- The accumulator has room for `n` symbols more (R14). -/
def HasRoom (s : State) (n : Nat) : Prop := ∀ cap, s.cfg.accCap = some cap → s.rx.len + n ≤ cap

theorem HasRoom.accFull_eq_false {s : State} {n : Nat} (h : HasRoom s (n + 1)) : s.accFull = false :=
  (accFull_eq_false_iff s).2 fun hcap => absurd (h _ hcap) (by omega)

theorem HasRoom.append {s : State} {n : Nat} (h : HasRoom s (n + 1)) (v : Byte) :
    HasRoom (s.rxNext (s.rx.append v)) n := by
  intro cap hcap
  have hle := h cap hcap
  have hlen : (s.rxNext (s.rx.append v)).rx.len = s.rx.len + 1 := List.length_append
  omega

/-- In an open frame with room, stuffed symbols are collected. -/
theorem rxFeed_flatMap_stuff {s : State} (vs : List Byte) (hf : s.inFraming = true) (hr : s.rxOut = none)
    (hroom : HasRoom s vs.length) : ∃ d, rxFeed (vs.flatMap stuff) s = s.withRx (vs.foldl Rx.append s.rx) d := by
  induction vs generalizing s with
  | nil => exact ⟨s.rxDiag, rfl⟩
  | cons v vs ih =>
    rw [List.flatMap_cons, rxFeed_append, rxFeed_stuff v hf hroom.accFull_eq_false,
      acknowledge_eq_self (s := s.rxNext (s.rx.append v)) hr]
    exact ih (s := s.rxNext (s.rx.append v)) hf hr (hroom.append v)

/-- The registers in an open frame with the symbols `vs` collected (R13). -/
def Rx.collected (vs : List Byte) : Rx := ⟨.framing, false, crcRaw vs, vs⟩

theorem foldl_append_fresh (vs : List Byte) : vs.foldl Rx.append Rx.fresh = Rx.collected vs :=
  foldl_append_eq Rx.fresh vs

/-- Without an escape pending `EOF` delivers or discards (R147, R148). -/
theorem rxStep_eof {s : State} (hf : s.inFraming = true) :
    rxStep eofByte s = if s.frameValid then s.deliver else s.discardFrame :=
  rxStep_framing eofByte hf

/-- The stuffed symbols of a frame between its delimiters: the decoder collects them all and then judges them. -/
theorem rxFeed_delimited {s : State} {vs : List Byte} (hr : s.rxOut = none)
    (h : s.rx.mode = .idle ∨ s.cfg.escThenSof = .restart) (hroom : ∀ cap, s.cfg.accCap = some cap → vs.length ≤ cap) :
    ∃ d, rxFeed ([sofByte] ++ vs.flatMap stuff ++ [eofByte]) s =
      (rxStep eofByte (s.withRx (Rx.collected vs) d)).acknowledge := by
  obtain ⟨d, hsof⟩ := rxFeed_sof hr h
  have hroom' : HasRoom (s.withRx Rx.fresh d) vs.length := fun cap hcap => (Nat.zero_add _).trans_le (hroom cap hcap)
  obtain ⟨d', hbody⟩ := rxFeed_flatMap_stuff (s := s.withRx Rx.fresh d) vs rfl hr hroom'
  have hcollected : rxFeed (vs.flatMap stuff) (s.withRx Rx.fresh d) = s.withRx (Rx.collected vs) d' :=
    hbody.trans (congrArg (s.withRx · d') (foldl_append_fresh vs))
  refine ⟨d', ?_⟩
  rw [List.append_assoc, List.singleton_append, hsof, rxFeed_append, hcollected]
  rfl

/-! ### Whole frames -/

/-- R153: the payload of a frame that fits is delivered, and the decoder is idle again. -/
theorem rxFeed_frameBytes {s : State} {p : List Byte} (hr : s.rxOut = none)
    (h : s.rx.mode = .idle ∨ s.cfg.escThenSof = .restart) (hp : p ≠ [])
    (hroom : ∀ cap, s.cfg.accCap = some cap → p.length + 1 ≤ cap) :
    rxFeed (frameBytes p) s =
      { s with rx := Rx.canonicalIdle, rxOut := none, rxDiag := none, delivered := s.delivered ++ [p] } := by
  obtain ⟨d, hfeed⟩ := rxFeed_delimited (vs := p ++ [computeCrc p]) hr h (by simpa using hroom)
  have hlen : minAcc ≤ (p ++ [computeCrc p]).length := by
    rw [List.length_append]
    exact Nat.succ_le_succ (List.length_pos_of_ne_nil hp)
  have hvalid : (s.withRx (Rx.collected (p ++ [computeCrc p])) d).frameValid = true :=
    (frameValid_iff _).2 ⟨hlen, crcRaw_concat_computeCrc p⟩
  rw [rxStep_eof rfl, if_pos hvalid] at hfeed
  refine hfeed.trans ?_
  simp [State.deliver, State.acknowledge, State.rxNext, State.withRx, Rx.collected]

theorem lt_of_cfg_wf {c : Config} {n cap : Nat} (hwf : c.wf = true) (hn : n ≤ maxPayload) (hcap : c.accCap = some cap) :
    n + 1 ≤ cap := by
  simp only [Config.wf, hcap, decide_eq_true_eq] at hwf
  exact (Nat.succ_le_succ hn).trans hwf

/-- Settles O46: a legal capacity has room for 4096 bytes and their checksum. -/
theorem encodedPayloadIsDelivered : Obligations.EncodedPayloadIsDelivered := by
  intro s p hwf hr hpos hlen h
  rw [rxFeed_frameBytes hr h (List.ne_nil_of_length_pos hpos) fun _ => lt_of_cfg_wf hwf hlen]
  exact ⟨rfl, rfl⟩

/-- Settles O48: the capacity is asked for room, and nothing else. -/
theorem receiverHasNoLengthLimit : Obligations.ReceiverHasNoLengthLimit := by
  intro c p hp hroom
  rw [decodeStream, rxFeed_frameBytes rfl (.inl rfl) hp hroom]
  rfl

/-- No `SOF` stands in a frame after its first byte (R69). -/
theorem frameBytes_eq_sof_cons (p : List Byte) : ∃ bs, frameBytes p = sofByte :: bs ∧ sofByte ∉ bs := by
  refine ⟨(p ++ [computeCrc p]).flatMap stuff ++ [eofByte], rfl, ?_⟩
  rw [List.mem_append, not_or]
  exact ⟨(bodyHoldsNoDelimiter p _ rfl).1, by decide⟩

/-- Settles O47: under `restart` the frame is delivered from whatever state the garbage leaves; under `abort` its `SOF` is taken
for a malformed escape and the rest is ignored. -/
theorem garbageDoesNotCorruptTheNextFrame : Obligations.GarbageDoesNotCorruptTheNextFrame := by
  refine ⟨fun c g p hwf hrestart hpos hlen => ?restart, fun c p _ habort => ?abort⟩
  case restart =>
    obtain ⟨(hcfg : _ = c), hr⟩ := rxFeed_keeps (s := State.resetWith c) g rfl
    rw [decodeStream, rxFeed_append, rxFeed_frameBytes hr (.inr (by rw [hcfg, hrestart]))
      (List.ne_nil_of_length_pos hpos) fun _ hcap => lt_of_cfg_wf hwf hlen (hcfg ▸ hcap)]
    exact List.getLast?_concat
  case abort =>
    obtain ⟨bs, hframe, hbs⟩ := frameBytes_eq_sof_cons p
    have hstep : rxStep sofByte ((State.resetWith c).withRx Rx.fresh.setEsc none) =
        ((State.resetWith c).withRx Rx.fresh.setEsc none).drop .malformedEscape :=
      (rxStep_framingEsc sofByte rfl).trans (if_pos habort)
    obtain ⟨d, hfeed⟩ := rxFeed_malformed rfl hstep hbs
    change (rxFeed (sofByte :: escByte :: frameBytes p) (State.resetWith c)).delivered = []
    rw [rxFeed_sof_esc rfl (.inl rfl), hframe, hfeed]
    rfl

/-- A control frame escapes a byte that is no code (R173). -/
theorem ctlBytes_eq_sof_esc (k : Ctl) :
    ∃ b bs, ctlBytes k = sofByte :: escByte :: b :: bs ∧ (!isFixedRxValue b) = true ∧ sofByte ∉ bs := by
  cases k <;> exact ⟨_, _, rfl, rfl, by decide⟩

/-- Settles O50: a control frame is a malformed escape. -/
theorem controlFramesAreNeverDelivered : Obligations.ControlFramesAreNeverDelivered := by
  intro s k hr h
  obtain ⟨b, bs, hctl, hb, hbs⟩ := ctlBytes_eq_sof_esc k
  have hstep := rxStep_framingEsc_data (s := s.withRx Rx.fresh.setEsc none) rfl hb
  obtain ⟨d, hfeed⟩ := rxFeed_malformed (s := s.withRx Rx.fresh.setEsc none) hr hstep hbs
  rw [hctl, rxFeed_sof_esc hr h, hfeed]
  exact ⟨rfl, rfl⟩

/-- Settles O51: the register sees the wrong symbol, so the frame is not valid. -/
theorem wrongUnstuffedSymbolIsDropped : Obligations.WrongUnstuffedSymbolIsDropped := by
  intro s p pre post a b hwf hr hlen h hsplit _ _ hab
  have hcount : (pre ++ b :: post).length = p.length + 1 := by
    simpa using (congrArg List.length hsplit).symm
  have hcrc : crcRaw (pre ++ b :: post) ≠ crcResidue := by
    rw [← crcRaw_concat_computeCrc p, hsplit]
    exact mt crcRaw_symbol_inj.1 hab.symm
  obtain ⟨d, hfeed⟩ := rxFeed_delimited (vs := pre ++ b :: post) hr h fun _ hcap => hcount ▸ lt_of_cfg_wf hwf hlen hcap
  have hinvalid : ¬ (s.withRx (Rx.collected (pre ++ b :: post)) d).frameValid = true :=
    fun hv => hcrc ((frameValid_iff _).1 hv).2
  rw [hfeed, rxStep_eof rfl, if_neg hinvalid, discardFrame_eq]
  rfl

end Sys2Proof.Machine

/-! PROOFS. The statements about the control frames: their emit step (O26), their rows (O34), and that no encoded frame holds one
(O42). -/

namespace Sys2Proof.Machine

/-- Settles O34: each row returns its `ctlBytes`. -/
theorem controlRowsReturnTheConstants : Obligations.ControlRowsReturnTheConstants :=
  fun _ => ⟨rfl, rfl, rfl⟩

theorem ctlBytes_getElem? (k : Ctl) (i : Fin 5) : (ctlBytes k)[i.val]? = some (ctlByte k i) := by
  have hi : i.val < (ctlBytes k).length := by cases k <;> exact i.isLt
  rw [ctlByte, List.getD_eq_getElem _ _ hi, List.getElem?_eq_getElem hi]

/-- Settles O26: the byte is `ctlByte`; the registers are split on the last index. -/
theorem txCtlEmitsTheConstant : Obligations.TxCtlEmitsTheConstant := by
  intro s hp he
  refine ⟨ctlByte s.tx.ctl s.tx.idx, ?byte, ?row⟩
  case byte =>
    rw [← ctlBytes_getElem?]
    cases s.tx.ctl <;> rfl
  case row =>
    rw [exec_txCtl hp he]
    by_cases hlast : s.tx.idx = 4
    · simp only [hlast, if_true]
    · simp only [hlast, if_false, ← hp]

/-! ### Control frames and encoded frames -/

/-- The checksum is that of the pair as it stands on the wire (R173). -/
theorem ctlBytes_eq_pair_and_checksum (k : Ctl) : ∃ command ∈ [0xae#8, 0xaf#8, 0xba#8],
    ctlBytes k = [0x00#8] ++ [0xaa#8, command] ++ [computeCrc [0xaa#8, command]] ++ [0xff#8] := by
  cases k with
  | base => exact ⟨0xae#8, by decide, rfl⟩
  | radio => exact ⟨0xaf#8, by decide, rfl⟩
  | telem => exact ⟨0xba#8, by decide, rfl⟩

theorem EscPaired.concat {v : Byte} {bs : List Byte} (h : EscPaired bs) (hv : v ≠ escByte) : EscPaired (bs ++ [v]) := by
  intro pre post hsplit
  cases post using List.reverseRecOn with
  | nil => exact absurd (List.append_inj_right' hsplit rfl) (by simpa using hv)
  | append_singleton post w =>
    rw [← List.cons_append, ← List.append_assoc] at hsplit
    obtain ⟨c, rest, rfl⟩ := h pre post (List.append_inj_left' hsplit rfl)
    exact ⟨c, rest ++ [w], rfl⟩

/-- In a whole frame too ESC is always followed by a code (R69). -/
theorem escPaired_frameBytes (p : List Byte) : EscPaired (frameBytes p) :=
  ((escPaired_flatMap_stuff (p ++ [computeCrc p])).concat (by decide)).cons (by decide)

theorem isFixedRxValue_code (c : EscCode) : isFixedRxValue c.byte = true := by
  cases c <;> rfl

/-- Settles O42: a control frame escapes a byte that is no code, an encoded frame never does. -/
theorem controlFramesAreUnstuffedAndNeverEncoded : Obligations.ControlFramesAreUnstuffedAndNeverEncoded := by
  refine ⟨ctlBytes_eq_pair_and_checksum, fun p pre post k hframe => ?_⟩
  obtain ⟨b, bs, hctl, hb, -⟩ := ctlBytes_eq_sof_esc k
  have hsplit : frameBytes p = (pre ++ [sofByte]) ++ escByte :: (b :: bs ++ post) := by
    rw [hframe, hctl]
    simp
  obtain ⟨c, rest, hcode⟩ := escPaired_frameBytes p _ _ hsplit
  obtain rfl : b = c.byte := (List.cons.inj hcode).1
  rw [isFixedRxValue_code] at hb
  contradiction

end Sys2Proof.Machine

/-! PROOFS. The statements about exceptions: what a drop leaves of the decoder (O18), and what PayloadTooLarge leaves of the encoder
at a step (O20). -/

namespace Sys2Proof.Machine

/-! ### Drops -/

theorem drop_eq (s : State) (c : Drop) :
    s.drop c = { s with
      rx := if c = .restart then Rx.fresh else Rx.canonicalIdle
      rxDiag := some c } := by
  cases c <;> rfl

/-- A decoder row that sets a label has dropped with that cause, whatever its kind: the label is the whole record (R187, R192). -/
theorem RxEffect.eq_drop {s t : State} {c : Drop} (h : RxEffect s t) (hr : s.rxOut = none) (hc : t.rxDiag = some c) :
    t = s.drop c := by
  cases h with
  | held hheld => exact absurd hr hheld
  | fresh d _ hd =>
    obtain rfl : d = some c := hc
    obtain rfl : c = .restart := by simpa using hd
    rfl
  | ignore | escape | append | deliver => cases hc
  | dropped c' =>
    obtain rfl : c' = c := Option.some.inj hc
    rfl

/-- Settles O18: the row has dropped, and a drop's registers depend on whether its cause is Restart. -/
theorem dropLeavesOnlyTheIdleState : Obligations.DropLeavesOnlyTheIdleState := by
  intro s t i c hi hr hexec hc
  exact ((exec_rx_effect hi hexec).eq_drop hr hc).trans (drop_eq s c)

/-! ### PayloadTooLarge -/

/-- Settles O20: the command is decoded and run in TxIdle, where it is too long; the phase stays, so the encoder is ready. -/
theorem oversizedCommandLeavesTheEncoder : Obligations.OversizedCommandLeavesTheEncoder := by
  intro s ts w ws ht hcmd hp hkind hlen
  have hstep := (step_cmd_of_decode ht hcmd hp (decodeCmd_sendPayload hkind)).trans (exec_txAccept_of_gt _ hp hlen)
  exact ⟨hstep, (txCmdReady_iff _).2 hp⟩

end Sys2Proof.Machine

/-! PROOFS. The statement about reset (O53): what a turn of `rst` leaves, whatever it interrupts. -/

namespace Sys2Proof.Machine

/-- R220 to R222 as one record: `rst` reads no register of the state it resets, so its whole effect is this update. -/
theorem State.applyReset_eq (s : State) :
    s.applyReset = { s with
      rx := State.reset.rx
      tx := State.reset.tx
      rxOut := none
      rxDiag := none
      txCmdStatus := none } := rfl

/-- Settles O53: the turn resets the state that has consumed it (`step_rst`), and the reset does not touch the turns left. -/
theorem resetFromAnyState : Obligations.ResetFromAnyState := by
  intro s ts ht
  rw [step_rst ht, State.applyReset_eq]

end Sys2Proof.Machine
